-- ==== Sys2Proof/Word.lean ====
section
/-! DEFINITION. The words of the machine: bytes, 16-bit and 32-bit words (00_scope.md R8, R9). -/

namespace Sys2Proof

/-- A byte: what a byte string, a buffer or a key is made of (R9). -/
abbrev Byte := BitVec 8

/-- A 16-bit word: IDEA's word (46_idea.md R280), MSGLEN and OUTLEN. -/
abbrev Half := BitVec 16

/-- A 32-bit word: a bus word, a command word, a word of RC6 and Blowfish. -/
abbrev Word := BitVec 32

/-- A byte string (00_scope.md R9). -/
abbrev Bytes := List Byte

/-- A 4-byte string, in byte order: a word of the AES schedule (43_aes.md R185) and a column of the
AES state (R183). -/
structure Quad where
  b0 : Byte
  b1 : Byte
  b2 : Byte
  b3 : Byte
deriving DecidableEq, Repr

/-- The 4-byte string of zeros. -/
def Quad.zero : Quad := ⟨0, 0, 0, 0⟩

/-- Bytewise exclusive-or of two 4-byte strings (00_scope.md R9; 43_aes.md R185: "`^` on words is
bytewise"). -/
def Quad.xor (a b : Quad) : Quad :=
  ⟨a.b0 ^^^ b.b0, a.b1 ^^^ b.b1, a.b2 ^^^ b.b2, a.b3 ^^^ b.b3⟩

end Sys2Proof
end

