-- ==== Sys2Proof/Config.lean ====
section
/-! DEFINITION. What an implementation fixes (00_scope.md R5), the values the spec leaves open, and the
names of the ciphers, directions and chaining modes (00_scope.md R2, 30_encoding.md R101, R102). -/

namespace Sys2Proof

/-- The parameters of one instance of the core (00_scope.md R5). They stand in the state, so that a
statement about every state is a statement about every value of them; no step changes them (log 4). -/
structure Params where
  /-- `BASE`: the bus address at which the core's window of 0x30000 bytes starts; open, so any address. -/
  base : Nat
  /-- `BUF_BYTES`: the capacity in bytes of each of IBUF and OBUF; default 4096. -/
  bufBytes : Nat
  /-- `BUFFER_RESET_CLEARS`: whether reset zero-fills DATA, IV, KEY, IBUF and OBUF; default true. -/
  resetClears : Bool
deriving DecidableEq, Repr

namespace Config

/-- The default parameters of 00_scope.md R5. BASE has no default there: 0 is a DESIGN CHOICE (log 4),
unsafe for a statement that would rest on it. -/
def defaultParams : Params := { base := 0, bufBytes := 4096, resetClears := true }

/-- `ID_VALUE` (00_scope.md R5, 10_state.md R32). -/
def idValue : Word := 0x50594301

/-- FREE VALUE (10_state.md R40, U1; log 2): what the k-th read of OUTLEN, ERRINFO, KSBYTE or OBUF
while BUSY = 1 returns. It has no body that a proof can see. -/
opaque freeRead : Nat → Word

/-- FREE VALUE (70_reset_and_hazards.md R452, U2; log 3): the byte that the k-th reset with
BUFFER_RESET_CLEARS = false leaves at an offset of the core byte space. -/
opaque resetByte : Nat → Nat → Byte

end Config

/-- The cipher ids 0 to 4 (00_scope.md R2, 30_encoding.md R101). -/
inductive Cipher where
  | aes
  | rc6
  | bf
  | idea
  | arc4
deriving DecidableEq, Repr

/-- The block ciphers: those a block size is defined for (00_scope.md R6), the values of CIPH that
PAD, UNPAD and the block form of RUN take (30_encoding.md R105). -/
inductive BlockCipher where
  | aes
  | rc6
  | bf
  | idea
deriving DecidableEq, Repr

/-- DIR (30_encoding.md R100): 0 encrypt, 1 decrypt. -/
inductive Dir where
  | enc
  | dec
deriving DecidableEq, Repr

/-- The defined values of CHAIN (30_encoding.md R102): 00 ECB, 01 CBC. -/
inductive Chain where
  | ecb
  | cbc
deriving DecidableEq, Repr

end Sys2Proof
end

