-- ==== Sys2Proof/Machine/Agenda.lean ====
section
/-! DEFINITION. What comes from outside the core: the host's bus accesses (20_memory.md R73,
30_encoding.md R111), the points at which the engine takes its step (10_state.md R38) and power-on
reset (70_reset_and_hazards.md R450). -/

namespace Sys2Proof.Machine

/-- One host access. `width` is in bits and `addr` is the bus address; the core performs only aligned
32-bit accesses inside its window (20_memory.md R70, R73), and the type admits the others too, because
the host can attempt them. -/
inductive HostAccess where
  | read (width addr : Nat)
  | write (width addr : Nat) (v : Word)
deriving DecidableEq, Repr

namespace HostAccess

/-- The width of an access in bits. -/
def width : HostAccess → Nat
  | .read w _ => w
  | .write w _ _ => w

/-- The bus address of an access. -/
def addr : HostAccess → Nat
  | .read _ x => x
  | .write _ x _ => x

/-- The offset of an access from BASE (20_memory.md R70), for an address not below BASE. -/
def off (p : Params) (a : HostAccess) : Nat := a.addr - p.base

end HostAccess

/-- One turn of the sequence in which host accesses and engine steps take effect (20_memory.md R81:
the engine's step is one atomic event somewhere in the sequence of accesses). -/
inductive Turn where
  /-- The host's next access is served. -/
  | host (a : HostAccess)
  /-- The engine takes its step, if a command is in flight (10_state.md R38). -/
  | engine
  /-- Power-on reset (70_reset_and_hazards.md R450). -/
  | powerOn
deriving DecidableEq, Repr

/-- What the bus answered to the last access served. -/
inductive Reply where
  /-- No access has been served. -/
  | none
  /-- The value a read returned. -/
  | value (v : Word)
  /-- A write completed (whether it changed anything or was ignored or dropped). -/
  | written
  /-- The bus error response to an access that is misaligned, not 32 bits wide or not inside the window
  (20_memory.md R73): the access is not performed. -/
  | busError
deriving DecidableEq, Repr

end Sys2Proof.Machine
end

