-- ==== Sys2Proof/Machine/State.lean ====
section
/-! DEFINITION. The state of the core as plain data (10_state.md R31 to R55), its state after reset
(70_reset_and_hazards.md R452), and the reasons a step can stop. -/

namespace Sys2Proof.Machine

/-- The tables of a Blowfish schedule: P[0..17] and four boxes of 256 words (45_blowfish.md R252). -/
structure BfTables where
  p : List Word
  s0 : List Word
  s1 : List Word
  s2 : List Word
  s3 : List Word
deriving DecidableEq, Repr

/-- The ARC4 state: the 256-entry table and the two indices (47_arc4.md R310). -/
structure Arc4State where
  s : List Byte
  i : Byte
  j : Byte
deriving DecidableEq, Repr

/-- The schedule of a block cipher (10_state.md R44). -/
inductive BlockSchedule where
  /-- AES: the round count and the words w[0 .. 4*Nr+3] (43_aes.md R185). -/
  | aes (nr : Nat) (w : List Quad)
  /-- RC6: S[0 .. 43] (44_rc6.md R222). -/
  | rc6 (s : List Word)
  /-- Blowfish: P and the four boxes (45_blowfish.md R252). -/
  | bf (t : BfTables)
  /-- IDEA: Z[1 .. 52] and DK[1 .. 52], entry n of the table at position n - 1 (46_idea.md R283, R284). -/
  | idea (z dk : List Half)
deriving DecidableEq, Repr

/-- What the schedule store holds when it is not None (10_state.md R44). -/
inductive Schedule where
  | block (k : BlockSchedule)
  | arc4 (st : Arc4State)
deriving DecidableEq, Repr

/-- The errors a command can end with (60_exceptions.md R400). SizeMismatch and KeyTooShort are
reserved and never given (R408), so they are not here. -/
inductive CmdError where
  | invalidKeyLength
  | unknownCipher
  | paddingError
  | missingIV
  | illegalCommand
  | notKeyed
  | lengthError
deriving DecidableEq, Repr

/-- Why the machine stops with a fault: for no reason. The type is empty, because the spec gives every
command and every host access an effect: a command that fails ends by its error (60_exceptions.md R410)
and a bad access gets a bus error response (20_memory.md R73), both next states. -/
inductive Fault where
deriving DecidableEq, Repr

/-- Why the machine refuses a step. -/
inductive Refusal where
  /-- Raised by an arm of `exec` for an instruction without a meaning; safe. No arm raises it: every
  instruction of the table has its meaning. -/
  | notModelled (mnemonic : String)
deriving DecidableEq, Repr

/-- Memory: the bytes of the core byte space (20_memory.md R72) by their offset from BASE. Addresses
strictly rise and no listed byte is 0x00, which is what an unlisted address reads as: the reset
contents that 70_reset_and_hazards.md R452 gives. -/
abbrev Memory := List Host.Cell

/-- The state of the core. STATUS.BUSY, KEYED and SCHED and the output IRQ are not stored: they are
functions of `pending`, `sched`, `ie` and `done` (log 7). -/
structure State where
  /-- The parameters of this instance (00_scope.md R5); no step changes them. -/
  params : Params
  /-- CTRL.IE (10_state.md R33). -/
  ie : Bool
  /-- STATUS.DONE (10_state.md R34). -/
  done : Bool
  /-- STATUS.OVR (10_state.md R34). -/
  ovr : Bool
  /-- STATUS.ERR (10_state.md R34, 60_exceptions.md R400). -/
  err : BitVec 4
  /-- The captured command word, or empty (10_state.md R37, R38). -/
  pending : Option Word
  /-- KEYLEN[8:0] (10_state.md R41). -/
  keylen : BitVec 9
  /-- MSGLEN[15:0] (10_state.md R42). -/
  msglen : Half
  /-- OUTLEN[15:0] (10_state.md R43). -/
  outlen : Half
  /-- ERRINFO (10_state.md R46). -/
  errinfo : Word
  /-- KSBYTE[7:0] (10_state.md R47). -/
  ksbyte : Byte
  /-- The schedule store (10_state.md R44). -/
  sched : Option Schedule
  /-- DATA, IV, KEY, IBUF and OBUF (20_memory.md R72). -/
  mem : Memory
  /-- The model's own: the turns still to come from outside (log 1). -/
  agenda : List Turn
  /-- The model's own: the bus's answer to the last access served (log 8). -/
  reply : Reply
  /-- The model's own: how many free values have been drawn (logs 2, 3). -/
  draws : Nat
deriving DecidableEq, Repr

/-- The state right after power-on reset with the default parameters (70_reset_and_hazards.md R450,
R452). -/
def State.reset : State :=
  { params := Config.defaultParams
    ie := false
    done := false
    ovr := false
    err := 0
    pending := none
    keylen := 0
    msglen := 0
    outlen := 0
    errinfo := 0
    ksbyte := 0
    sched := none
    mem := []
    agenda := []
    reply := .none
    draws := 0 }

end Sys2Proof.Machine
end

