-- ==== Sys2Proof/Machine/Flags.lean ====
section
/-! DEFINITION. The control and status words, the error codes and the interrupt output
(10_state.md R33, R34, R45, R46, R53, R54; 60_exceptions.md R400). -/

namespace Sys2Proof.Machine

/-- The code of an error in STATUS.ERR (60_exceptions.md R400). -/
def CmdError.code : CmdError → BitVec 4
  | .invalidKeyLength => 1
  | .unknownCipher => 2
  | .paddingError => 3
  | .missingIV => 5
  | .illegalCommand => 7
  | .notKeyed => 8
  | .lengthError => 9

/-- The cipher id of a schedule's tag (10_state.md R45). -/
def Schedule.tag : Schedule → BitVec 3
  | .block (.aes _ _) => 0
  | .block (.rc6 _) => 1
  | .block (.bf _) => 2
  | .block (.idea _ _) => 3
  | .arc4 _ => 4

/-- STATUS.BUSY: a command is in flight (10_state.md R34, R37, R38). -/
def State.busy (s : State) : Bool := s.pending.isSome

/-- STATUS.KEYED (10_state.md R45). -/
def State.keyed (s : State) : Bool := s.sched.isSome

/-- STATUS.SCHED (10_state.md R45). -/
def State.schedTag (s : State) : BitVec 3 :=
  match s.sched with
  | some k => k.tag
  | none => 0

/-- The interrupt output IRQ = CTRL.IE & STATUS.DONE (10_state.md R54, 60_exceptions.md R430). -/
def State.irq (s : State) : Bool := s.ie && s.done

/-- A one-bit field. -/
def bit (b : Bool) : BitVec 1 := BitVec.ofBool b

/-- What a read of CTRL returns (10_state.md R33): IE in bit 0; SRST and the reserved bits read 0. -/
def State.ctrlWord (s : State) : Word := (0 : BitVec 31) ++ bit s.ie

/-- What a read of STATUS returns (10_state.md R34). -/
def State.statusWord (s : State) : Word :=
  (0 : BitVec 20) ++ bit s.keyed ++ s.schedTag ++ s.err ++ (0 : BitVec 1) ++ bit s.ovr ++
    bit s.done ++ bit s.busy

/-- ERRINFO of a failed command (10_state.md R46): LEN in [31:16], OP in [15:8], CIPH in [3:0], from the
command word as written. -/
def errinfoWord (w : Word) (len : Half) : Word :=
  len ++ w.extractLsb' 0 8 ++ (0 : BitVec 4) ++ w.extractLsb' 8 4

end Sys2Proof.Machine
end

