-- ==== Sys2Proof/Machine/Packing.lean ====
section
/-! DEFINITION. Byte strings and their packing into words (00_scope.md R9, R10). A string is read at an
index past its end as 0x00; no rule does so on a string of the length the rule names. -/

namespace Sys2Proof.Machine

/-- `B[i]` (00_scope.md R9). -/
def byteAt (b : Bytes) (i : Nat) : Byte := b.getD i 0

/-- `be16(B, i)` (00_scope.md R10). -/
def be16 (b : Bytes) (i : Nat) : Half := byteAt b i ++ byteAt b (i + 1)

/-- `be32(B, i)` (00_scope.md R10). -/
def be32 (b : Bytes) (i : Nat) : Word :=
  byteAt b i ++ byteAt b (i + 1) ++ byteAt b (i + 2) ++ byteAt b (i + 3)

/-- `le32(B, i)` (00_scope.md R10). -/
def le32 (b : Bytes) (i : Nat) : Word :=
  byteAt b (i + 3) ++ byteAt b (i + 2) ++ byteAt b (i + 1) ++ byteAt b i

/-- `be16_bytes(x)` (00_scope.md R10). -/
def be16Bytes (x : Half) : Bytes := [x.extractLsb' 8 8, x.extractLsb' 0 8]

/-- `be32_bytes(x)` (00_scope.md R10). -/
def be32Bytes (x : Word) : Bytes :=
  [x.extractLsb' 24 8, x.extractLsb' 16 8, x.extractLsb' 8 8, x.extractLsb' 0 8]

/-- `le32_bytes(x)` (00_scope.md R10). -/
def le32Bytes (x : Word) : Bytes :=
  [x.extractLsb' 0 8, x.extractLsb' 8 8, x.extractLsb' 16 8, x.extractLsb' 24 8]

/-- `rep(x, n)` (00_scope.md R9). -/
def rep (x : Byte) (n : Nat) : Bytes := List.replicate n x

/-- `A ^ B` on byte strings of equal length (00_scope.md R9). -/
def xorBytes (a b : Bytes) : Bytes := List.zipWith (fun x y => x ^^^ y) a b

/-- `B[a .. a+n)` (00_scope.md R9). -/
def slice (b : Bytes) (a n : Nat) : Bytes := (b.drop a).take n

end Sys2Proof.Machine
end

