-- ==== Sys2Proof/Machine/Ops.lean ====
section
/-! DEFINITION. The named operations over memory and registers; the ending of a command, with success
(10_state.md R38) or with an error (60_exceptions.md R410), and the acknowledgement that answers it
(R432); acceptance (10_state.md R37); reset (70_reset_and_hazards.md R450 to R452). -/

namespace Sys2Proof.Machine

/-! ## Memory -/

/-- The byte at an address; an unlisted address reads 0x00 (70_reset_and_hazards.md R452). -/
def Memory.read : Memory → Nat → Byte
  | [], _ => 0
  | (b, x) :: m, a => if a = b then x else Memory.read m a

/-- Write one byte, keeping the canonical form: writing 0x00 removes the entry. -/
def Memory.write : Memory → Nat → Byte → Memory
  | [], a, v => if v = 0 then [] else [(a, v)]
  | (b, x) :: m, a, v =>
    if a < b then (if v = 0 then (b, x) :: m else (a, v) :: (b, x) :: m)
    else if a = b then (if v = 0 then m else (a, v) :: m)
    else (b, x) :: Memory.write m a v

/-- `MemRead(a, n)` (00_scope.md R12, 20_memory.md R72). -/
def Memory.readBytes (m : Memory) (a n : Nat) : Bytes := (List.range' a n).map m.read

/-- `MemWrite(a, n, v)` for an n-byte string v (00_scope.md R12, 20_memory.md R72). -/
def Memory.writeBytes : Memory → Nat → Bytes → Memory
  | m, _, [] => m
  | m, a, v :: vs => Memory.writeBytes (m.write a v) (a + 1) vs

/-- Zero-fill the bytes a .. a+n-1. -/
def Memory.zeroFill (m : Memory) (a n : Nat) : Memory :=
  m.filter (fun c => !(a ≤ c.1 && c.1 < a + n))

/-- The addresses of a memory strictly rise, each at least `lo`, and no byte listed is 0x00. -/
def Memory.wfFrom : Nat → Memory → Bool
  | _, [] => true
  | lo, (b, x) :: m => lo ≤ b && x != 0 && Memory.wfFrom (b + 1) m

/-- The canonical form of memory. -/
def Memory.wf (m : Memory) : Bool := Memory.wfFrom 0 m

/-! ## The byte regions (20_memory.md R72) -/

/-- The offset of DATA (10_state.md R48). -/
def dataBase : Nat := 0x040

/-- The offset of IV (10_state.md R49). -/
def ivBase : Nat := 0x050

/-- The offset of KEY (10_state.md R50). -/
def keyBase : Nat := 0x100

/-- The offset of IBUF (10_state.md R51). -/
def ibufBase : Nat := 0x10000

/-- The offset of OBUF (10_state.md R52). -/
def obufBase : Nat := 0x20000

/-- The offsets of the core byte space (20_memory.md R72), rising. -/
def byteSpace (p : Params) : List Nat :=
  List.range' dataBase 16 ++ List.range' ivBase 16 ++ List.range' keyBase 256 ++
    List.range' ibufBase p.bufBytes ++ List.range' obufBase p.bufBytes

/-- Replace the memory. -/
def State.setMem (m : Memory) (s : State) : State := { s with mem := m }

/-- Replace the content of the schedule store. -/
def State.setSched (k : Option Schedule) (s : State) : State := { s with sched := k }

/-- Write OUTLEN. -/
def State.setOutlen (n : Half) (s : State) : State := { s with outlen := n }

/-- Write KSBYTE. -/
def State.setKsbyte (b : Byte) (s : State) : State := { s with ksbyte := b }

/-- `DATA[0 .. len(v)) <- v` (10_state.md R48). -/
def State.writeData (v : Bytes) (s : State) : State := s.setMem (s.mem.writeBytes dataBase v)

/-- `OBUF[0 .. len(v)) <- v; OUTLEN <- len(v)` (10_state.md R43, R52). -/
def State.writeOutput (v : Bytes) (s : State) : State :=
  (s.setMem (s.mem.writeBytes obufBase v)).setOutlen (BitVec.ofNat 16 v.length)

/-- `OBUF[0 .. BUF_BYTES) <- zeros; OUTLEN <- 0` (60_exceptions.md R410). -/
def State.clearOutput (s : State) : State :=
  (s.setMem (s.mem.zeroFill obufBase s.params.bufBytes)).setOutlen 0

/-! ## The ending of a command -/

/-- The captured command word (10_state.md R37). The engine takes its step only while one is captured;
for a state with none, which the engine never runs a command in, it is 0 (DESIGN CHOICE, log 10, unsafe
there). -/
def State.captured (s : State) : Word := s.pending.getD 0

/-- The writes that end every command (10_state.md R38). -/
def State.complete (code : BitVec 4) (info : Word) (s : State) : State :=
  { s with err := code, errinfo := info, done := true, pending := none }

/-- Completion with success: ERR = 0 and ERRINFO = 0 (10_state.md R38). -/
def State.succeed (s : State) : State := s.complete 0 0

/-- Where in a command an error arises: the rows of the table of 60_exceptions.md R410. -/
inductive ErrorPlace where
  /-- Decoding, any OP. -/
  | decoding
  /-- EXPAND. -/
  | expand
  /-- ENCB, DECB, KSNEXT. -/
  | keyed
  /-- PAD, UNPAD. -/
  | padding
  /-- RUN, any cipher. -/
  | run
deriving DecidableEq, Repr

/-- The state an error changes besides STATUS and ERRINFO (60_exceptions.md R410). -/
def State.errorEffect (pl : ErrorPlace) (s : State) : State :=
  match pl with
  | .decoding => s
  | .expand => s.setSched none
  | .keyed => s
  | .padding => s.clearOutput
  | .run => s.clearOutput.setSched none

/-- `raise E(len)` (00_scope.md R12, 60_exceptions.md R410): the effects of the command's row, then the
completion with the error's code and its ERRINFO. This is the machine's one way of taking an error; it
saves no state and transfers no control (R431). -/
def State.raise (pl : ErrorPlace) (e : CmdError) (len : Half) (s : State) : State :=
  (s.errorEffect pl).complete e.code (errinfoWord s.captured len)

/-- The host's acknowledgement of a completion: writing 1 to STATUS.DONE clears it and deasserts IRQ
(60_exceptions.md R432, R430). It stands where another machine has a return from exception. -/
def State.acknowledge (s : State) : State := { s with done := false }

/-- Writing 1 to STATUS.OVR clears it (10_state.md R34). -/
def State.clearOvr (s : State) : State := { s with ovr := false }

/-! ## Acceptance, dropped writes and reset -/

/-- Acceptance of a command word (10_state.md R37). BUSY rises because `pending` is no longer empty. -/
def State.accept (v : Word) (s : State) : State :=
  { s with pending := some v, done := false, err := 0 }

/-- A write the core drops because it is busy (10_state.md R39). -/
def State.dropWrite (s : State) : State := { s with ovr := true }

/-- Memory after a reset (70_reset_and_hazards.md R452): all zero when BUFFER_RESET_CLEARS; otherwise
every byte of the core byte space is the draw that the `k`-th such reset fixes for it. -/
def resetMemory (p : Params) (k : Nat) : Memory :=
  if p.resetClears then []
  else (byteSpace p).filterMap fun a =>
    if Config.resetByte k a = 0 then none else some (a, Config.resetByte k a)

/-- Reset of the core (70_reset_and_hazards.md R450 to R452): every piece of the core's state takes its
reset value. The parameters and what the model keeps of the world outside (the agenda, the bus's reply
and the count of draws) are no part of the core. -/
def State.resetCore (s : State) : State :=
  { State.reset with
    params := s.params
    mem := resetMemory s.params s.draws
    agenda := s.agenda
    reply := s.reply
    draws := if s.params.resetClears then s.draws else s.draws + 1 }

end Sys2Proof.Machine
end

