-- ==== Sys2Proof/Syntax.lean ====
section
/-! DEFINITION. The instructions: one constructor for each row of spec/opcode_table.json
(30_encoding.md R105). Their operand types admit exactly the values a row's free fields take. -/

namespace Sys2Proof

/-- A command of the core (30_encoding.md R105). -/
inductive Instr where
  /-- EXPAND AES (43_aes.md R195). -/
  | expandAes
  /-- EXPAND RC6 (44_rc6.md R226). -/
  | expandRc6
  /-- EXPAND BF (45_blowfish.md R257). -/
  | expandBf
  /-- EXPAND IDEA (46_idea.md R288). -/
  | expandIdea
  /-- EXPAND ARC4 (47_arc4.md R312). -/
  | expandArc4
  /-- ENCB AES (43_aes.md R196). -/
  | encbAes
  /-- ENCB RC6 (44_rc6.md R227). -/
  | encbRc6
  /-- ENCB BF (45_blowfish.md R258). -/
  | encbBf
  /-- ENCB IDEA (46_idea.md R289). -/
  | encbIdea
  /-- DECB AES (43_aes.md R197). -/
  | decbAes
  /-- DECB RC6 (44_rc6.md R228). -/
  | decbRc6
  /-- DECB BF (45_blowfish.md R259). -/
  | decbBf
  /-- DECB IDEA (46_idea.md R290). -/
  | decbIdea
  /-- KSNEXT (47_arc4.md R313). -/
  | ksnext
  /-- PAD c (40_block_utils.md R133). -/
  | pad (c : BlockCipher)
  /-- UNPAD c (40_block_utils.md R134). -/
  | unpad (c : BlockCipher)
  /-- RUN c, d, m [, IV] for a block cipher (48_pipeline.md R330); `iv` is the flag IVP. -/
  | run (c : BlockCipher) (d : Dir) (m : Chain) (iv : Bool)
  /-- RUN ARC4, d (48_pipeline.md R336). -/
  | runArc4 (d : Dir)
  /-- CLEAR (49_control.md R360). -/
  | clear
deriving DecidableEq, Repr

/-- The fields of a command word (30_encoding.md R100), as written. -/
structure CmdFields where
  op : BitVec 8
  ciph : BitVec 4
  dir : BitVec 1
  chain : BitVec 2
  ivp : BitVec 1
  rsv : BitVec 16
deriving DecidableEq, Repr

end Sys2Proof
end

