-- ==== Sys2Proof/WellFormed.lean ====
section
/-! DEFINITION. Well-formedness: of a command word's fields (30_encoding.md R106, independent of the
order of the decoder's tests), of a host access (20_memory.md R73) and of the parameters
(00_scope.md R5). A term of `Instr` needs no check of its own: its operand types admit only what
30_encoding.md R105 admits. -/

namespace Sys2Proof

namespace CmdFields

/-- RSV is 0 (30_encoding.md R100). -/
def rsvOk (f : CmdFields) : Bool := f.rsv == 0

/-- OP is one of 0x01 to 0x08 (30_encoding.md R106). -/
def opOk (f : CmdFields) : Bool := 1 ≤ f.op.toNat && f.op.toNat ≤ 8

/-- CLEAR has none of bits [15:8] set (30_encoding.md R106, 49_control.md R360). -/
def clearOk (f : CmdFields) : Bool :=
  f.op != 8 || (f.ciph == 0 && f.dir == 0 && f.chain == 0 && f.ivp == 0)

/-- Only RUN has any of bits [15:12] set (30_encoding.md R106). -/
def modifiersOk (f : CmdFields) : Bool :=
  f.op == 7 || (f.dir == 0 && f.chain == 0 && f.ivp == 0)

/-- CIPH is a known id (30_encoding.md R101; the failure of this check alone is `UnknownCipher`). -/
def cipherOk (f : CmdFields) : Bool := f.op == 8 || f.ciph.toNat < 5

/-- The cipher is one the OP applies to: ENCB, DECB, PAD and UNPAD not ARC4, KSNEXT only ARC4
(30_encoding.md R106). -/
def pairingOk (f : CmdFields) : Bool :=
  (f.ciph != 4 || !(f.op == 2 || f.op == 3 || f.op == 5 || f.op == 6)) && (f.op != 4 || f.ciph == 4)

/-- RUN's CHAIN is ECB or CBC, and RUN of ARC4 has CHAIN = 00 and IVP = 0 (30_encoding.md R102, R106). -/
def chainOk (f : CmdFields) : Bool :=
  f.op != 7 || (f.chain.toNat < 2 && (f.ciph != 4 || (f.chain == 0 && f.ivp == 0)))

/-- The fields spell a command (30_encoding.md R105, R106). -/
def wellFormed (f : CmdFields) : Bool :=
  f.rsvOk && f.opOk && f.clearOk && f.modifiersOk && f.cipherOk && f.pairingOk && f.chainOk

end CmdFields

namespace Machine.HostAccess

/-- The access is 32 bits wide (20_memory.md R73). -/
def widthOk (a : HostAccess) : Bool := a.width == 32

/-- The offset is a multiple of 4 (20_memory.md R73). -/
def alignedOk (p : Params) (a : HostAccess) : Bool := a.off p % 4 == 0

/-- The address is inside the window: not below BASE, and its offset below 0x30000 (20_memory.md R70,
R73). -/
def insideOk (p : Params) (a : HostAccess) : Bool := p.base ≤ a.addr && a.off p < 0x30000

/-- The core performs the access (20_memory.md R73). -/
def wellFormed (p : Params) (a : HostAccess) : Bool := a.widthOk && a.alignedOk p && a.insideOk p

end Machine.HostAccess

namespace Params

/-- BUF_BYTES is a multiple of 16 (00_scope.md R5). -/
def multipleOk (p : Params) : Bool := p.bufBytes % 16 == 0

/-- 16 <= BUF_BYTES <= 32768 (00_scope.md R5). -/
def rangeOk (p : Params) : Bool := 16 ≤ p.bufBytes && p.bufBytes ≤ 32768

/-- The parameters are ones 00_scope.md R5 allows. -/
def wellFormed (p : Params) : Bool := p.multipleOk && p.rangeOk

end Params

end Sys2Proof
end

