-- ==== Sys2Proof/Machine/Bus.lean ====
section
/-! DEFINITION. The register window: host reads and writes (10_state.md R31 to R52; 20_memory.md R73 to
R76). -/

namespace Sys2Proof.Machine

/-- What stands at an offset of the window (10_state.md R31). -/
inductive Region where
  | id
  | ctrl
  | status
  | cmd
  | keylen
  | msglen
  | outlen
  | errinfo
  | ksbyte
  /-- DATA, IV, KEY or IBUF: bytes that the host reads and writes. -/
  | operandBytes
  /-- OBUF: bytes that the host only reads. -/
  | outputBytes
  /-- A reserved offset (20_memory.md R76). -/
  | reserved
deriving DecidableEq, Repr

/-- `off` is one of the `n` offsets from `base` on. -/
def inRange (base n off : Nat) : Bool := base ≤ off && off < base + n

/-- The address map (10_state.md R31, 20_memory.md R76), for the offset of an aligned access. -/
def regionOf (p : Params) (off : Nat) : Region :=
  if off = 0x000 then .id
  else if off = 0x004 then .ctrl
  else if off = 0x008 then .status
  else if off = 0x00C then .cmd
  else if off = 0x010 then .keylen
  else if off = 0x014 then .msglen
  else if off = 0x018 then .outlen
  else if off = 0x01C then .errinfo
  else if off = 0x020 then .ksbyte
  else if inRange dataBase 16 off || inRange ivBase 16 off || inRange keyBase 256 off ||
      inRange ibufBase p.bufBytes off then .operandBytes
  else if inRange obufBase p.bufBytes off then .outputBytes
  else .reserved

/-- The 32-bit word of a byte region at an offset, the lowest byte in bits [7:0] (20_memory.md R74). -/
def State.busWord (s : State) (off : Nat) : Word := le32 (s.mem.readBytes off 4) 0

/-- A read of a result register or of OBUF: its value, and while BUSY = 1 an unspecified word
(10_state.md R40, U1; log 2). -/
def State.resultWord (s : State) (v : Word) : Word := if s.busy then Config.freeRead s.draws else v

/-- The value a read of an aligned offset returns (10_state.md R31 to R52; 20_memory.md R76). -/
def State.readWord (s : State) (off : Nat) : Word :=
  match regionOf s.params off with
  | .id => Config.idValue
  | .ctrl => s.ctrlWord
  | .status => s.statusWord
  | .cmd => 0
  | .keylen => s.keylen.setWidth 32
  | .msglen => s.msglen.setWidth 32
  | .outlen => s.resultWord (s.outlen.setWidth 32)
  | .errinfo => s.resultWord s.errinfo
  | .ksbyte => s.resultWord (s.ksbyte.setWidth 32)
  | .operandBytes => s.busWord off
  | .outputBytes => s.resultWord (s.busWord off)
  | .reserved => 0

/-- A read of this region while BUSY = 1 returns a free value (10_state.md R40). -/
def Region.isResult : Region → Bool
  | .outlen => true
  | .errinfo => true
  | .ksbyte => true
  | .outputBytes => true
  | .id => false
  | .ctrl => false
  | .status => false
  | .cmd => false
  | .keylen => false
  | .msglen => false
  | .operandBytes => false
  | .reserved => false

/-- The count of draws after a read: a read that returned a free value has used one. No state of the
core changes (20_memory.md R75). -/
def State.drawsAfterRead (s : State) (off : Nat) : Nat :=
  if s.busy && (regionOf s.params off).isResult then s.draws + 1 else s.draws

/-- Serve a read (20_memory.md R75): only the bus's reply and the model's count of draws change. -/
def State.serveRead (off : Nat) (s : State) : State :=
  { s with reply := .value (s.readWord off), draws := s.drawsAfterRead off }

/-- A write of CTRL (10_state.md R33; 70_reset_and_hazards.md R451): SRST = 1 resets the core and the
other bits of the write are ignored; otherwise IE takes bit 0. -/
def State.writeCtrl (v : Word) (s : State) : State :=
  if v.getLsbD 1 then s.resetCore else { s with ie := v.getLsbD 0 }

/-- A write of STATUS (10_state.md R34): bit 1 acknowledges DONE, bit 2 clears OVR. -/
def State.writeStatus (v : Word) (s : State) : State :=
  let s := if v.getLsbD 1 then s.acknowledge else s
  if v.getLsbD 2 then s.clearOvr else s

/-- A write that the core performs only when idle; while BUSY = 1 it is dropped and sets OVR
(10_state.md R39). -/
def State.ifIdle (f : State → State) (s : State) : State := if s.busy then s.dropWrite else f s

/-- Write KEYLEN[8:0] (10_state.md R41). -/
def State.setKeylen (n : BitVec 9) (s : State) : State := { s with keylen := n }

/-- Write MSGLEN[15:0] (10_state.md R42). -/
def State.setMsglen (n : Half) (s : State) : State := { s with msglen := n }

/-- The effect of a write of `v` at an aligned offset (10_state.md R31 to R52; 20_memory.md R74 to
R76). -/
def State.writeWord (off : Nat) (v : Word) (s : State) : State :=
  match regionOf s.params off with
  | .id => s
  | .ctrl => s.writeCtrl v
  | .status => s.writeStatus v
  | .cmd => s.ifIdle (State.accept v)
  | .keylen => s.ifIdle (State.setKeylen (v.setWidth 9))
  | .msglen => s.ifIdle (State.setMsglen (v.setWidth 16))
  | .outlen => s
  | .errinfo => s
  | .ksbyte => s
  | .operandBytes => s.ifIdle (fun t => t.setMem (t.mem.writeBytes off (le32Bytes v)))
  | .outputBytes => s
  | .reserved => s

/-- Record that a write completed on the bus. -/
def State.replyWritten (s : State) : State := { s with reply := .written }

/-- Answer an access with the bus error response; no state of the core changes (20_memory.md R73). -/
def State.replyBusError (s : State) : State := { s with reply := .busError }

/-- Perform an aligned 32-bit access inside the window (20_memory.md R73). -/
def State.perform (a : HostAccess) (s : State) : State :=
  match a with
  | .read _ _ => s.serveRead (a.off s.params)
  | .write _ _ v => (s.writeWord (a.off s.params) v).replyWritten

/-- Serve one host access (20_memory.md R73, U6; log 5): an access that is misaligned, not 32 bits wide
or not inside the window is not performed and gets a bus error response. -/
def serve (a : HostAccess) (s : State) : State :=
  if a.wellFormed s.params then s.perform a else s.replyBusError

end Sys2Proof.Machine
end

