-- ==== Sys2Proof/Decode.lean ====
section
/-! DEFINITION. The decoder of 30_encoding.md R104, total on every 32-bit word and rejecting by name,
and after it the encoder (30_encoding.md R105, R110). -/

namespace Sys2Proof

/-- The fields of a command word (30_encoding.md R100). -/
def fieldsOf (v : Word) : CmdFields :=
  { op := v.extractLsb' 0 8
    ciph := v.extractLsb' 8 4
    dir := v.extractLsb' 12 1
    chain := v.extractLsb' 13 2
    ivp := v.extractLsb' 15 1
    rsv := v.extractLsb' 16 16 }

/-- The outcome of decoding a command word (30_encoding.md R104). -/
inductive Decoded where
  /-- The word spells a command. -/
  | cmd (i : Instr)
  /-- The word completes with `IllegalCommand` (60_exceptions.md R401). -/
  | illegal
  /-- The word completes with `UnknownCipher` (60_exceptions.md R403). -/
  | unknown
deriving DecidableEq, Repr

/-- CIPH as a cipher (30_encoding.md R101); none for 5 to 15. -/
def cipherOf (ciph : BitVec 4) : Option Cipher :=
  match ciph.toNat with
  | 0 => some .aes
  | 1 => some .rc6
  | 2 => some .bf
  | 3 => some .idea
  | 4 => some .arc4
  | _ => none

/-- The block cipher a cipher id names; none for ARC4 (00_scope.md R6). -/
def Cipher.block : Cipher → Option BlockCipher
  | .aes => some .aes
  | .rc6 => some .rc6
  | .bf => some .bf
  | .idea => some .idea
  | .arc4 => none

/-- DIR as a direction (30_encoding.md R100). -/
def dirOf (d : BitVec 1) : Dir := if d = 0 then .enc else .dec

/-- CHAIN as a chaining mode; none for the reserved 10 and 11 (30_encoding.md R102). -/
def chainOf (ch : BitVec 2) : Option Chain :=
  match ch.toNat with
  | 0 => some .ecb
  | 1 => some .cbc
  | _ => none

/-- EXPAND by cipher (30_encoding.md R105). -/
def expandInstr : Cipher → Instr
  | .aes => .expandAes
  | .rc6 => .expandRc6
  | .bf => .expandBf
  | .idea => .expandIdea
  | .arc4 => .expandArc4

/-- ENCB by block cipher (30_encoding.md R105). -/
def encbInstr : BlockCipher → Instr
  | .aes => .encbAes
  | .rc6 => .encbRc6
  | .bf => .encbBf
  | .idea => .encbIdea

/-- DECB by block cipher (30_encoding.md R105). -/
def decbInstr : BlockCipher → Instr
  | .aes => .decbAes
  | .rc6 => .decbRc6
  | .bf => .decbBf
  | .idea => .decbIdea

/-- A command that only a block cipher has: ARC4 is Illegal (30_encoding.md R104). -/
def blockOnly (f : BlockCipher → Instr) (c : Cipher) : Decoded :=
  match c.block with
  | some b => .cmd (f b)
  | none => .illegal

/-- RUN (30_encoding.md R104): the reserved chainings are Illegal, and ARC4 takes neither chaining nor
an IV. -/
def decodeRun (f : CmdFields) (c : Cipher) : Decoded :=
  match chainOf f.chain with
  | none => .illegal
  | some m =>
    match c.block with
    | some b => .cmd (.run b (dirOf f.dir) m (f.ivp == 1))
    | none => if f.chain = 0 ∧ f.ivp = 0 then .cmd (.runArc4 (dirOf f.dir)) else .illegal

/-- The command that OP selects for a known cipher: the tests of 30_encoding.md R104 that come after
`ciph >= 5`. -/
def decodeOp (f : CmdFields) (c : Cipher) : Decoded :=
  match f.op.toNat with
  | 0x01 => .cmd (expandInstr c)
  | 0x02 => blockOnly encbInstr c
  | 0x03 => blockOnly decbInstr c
  | 0x04 => if c = .arc4 then .cmd .ksnext else .illegal
  | 0x05 => blockOnly .pad c
  | 0x06 => blockOnly .unpad c
  | 0x07 => decodeRun f c
  | _ => .illegal

/-- The decoding of a command word's fields, in the order of the tests of 30_encoding.md R104 (which is
the priority of the two errors, 60_exceptions.md R420). -/
def decodeFields (f : CmdFields) : Decoded :=
  if f.rsv ≠ 0 then .illegal
  else if f.op.toNat < 1 ∨ 8 < f.op.toNat then .illegal
  else if f.op = 0x08 then
    if f.ciph ≠ 0 ∨ f.dir ≠ 0 ∨ f.chain ≠ 0 ∨ f.ivp ≠ 0 then .illegal else .cmd .clear
  else if f.op ≠ 0x07 ∧ (f.dir ≠ 0 ∨ f.chain ≠ 0 ∨ f.ivp ≠ 0) then .illegal
  else
    match cipherOf f.ciph with
    | none => .unknown
    | some c => decodeOp f c

/-- `decode(v)` of 30_encoding.md R104. -/
def decode (v : Word) : Decoded := decodeFields (fieldsOf v)

/-- The instruction the decoder reads from the command word whose bits are `w`; a command word is one
32-bit bus word (20_memory.md R74), written to CMD as it stands. -/
def decodeTableWord (nbits w : Nat) : Option Instr :=
  match decode (BitVec.ofNat 32 (w % 2 ^ nbits)) with
  | .cmd i => some i
  | .illegal => none
  | .unknown => none

/-! ## The encoder -/

/-- The cipher id (00_scope.md R2; 30_encoding.md R110's `id(c)`). -/
def Cipher.id : Cipher → BitVec 4
  | .aes => 0
  | .rc6 => 1
  | .bf => 2
  | .idea => 3
  | .arc4 => 4

/-- A block cipher as a cipher. -/
def BlockCipher.cipher : BlockCipher → Cipher
  | .aes => .aes
  | .rc6 => .rc6
  | .bf => .bf
  | .idea => .idea

/-- DIR (30_encoding.md R100). -/
def Dir.bit : Dir → BitVec 1
  | .enc => 0
  | .dec => 1

/-- CHAIN (30_encoding.md R102). -/
def Chain.bits : Chain → BitVec 2
  | .ecb => 0
  | .cbc => 1

/-- The fields of a command without DIR, CHAIN or IVP. -/
def plainFields (op : BitVec 8) (c : Cipher) : CmdFields :=
  { op := op, ciph := c.id, dir := 0, chain := 0, ivp := 0, rsv := 0 }

/-- The fields of an instruction's word (30_encoding.md R105, R110). -/
def Instr.fields : Instr → CmdFields
  | .expandAes => plainFields 0x01 .aes
  | .expandRc6 => plainFields 0x01 .rc6
  | .expandBf => plainFields 0x01 .bf
  | .expandIdea => plainFields 0x01 .idea
  | .expandArc4 => plainFields 0x01 .arc4
  | .encbAes => plainFields 0x02 .aes
  | .encbRc6 => plainFields 0x02 .rc6
  | .encbBf => plainFields 0x02 .bf
  | .encbIdea => plainFields 0x02 .idea
  | .decbAes => plainFields 0x03 .aes
  | .decbRc6 => plainFields 0x03 .rc6
  | .decbBf => plainFields 0x03 .bf
  | .decbIdea => plainFields 0x03 .idea
  | .ksnext => plainFields 0x04 .arc4
  | .pad c => plainFields 0x05 c.cipher
  | .unpad c => plainFields 0x06 c.cipher
  | .run c d m iv =>
    { plainFields 0x07 c.cipher with dir := d.bit, chain := m.bits, ivp := if iv then 1 else 0 }
  | .runArc4 d => { plainFields 0x07 .arc4 with dir := d.bit }
  | .clear => plainFields 0x08 .aes

/-- A command word from its fields (30_encoding.md R100): RSV in [31:16], IVP in [15], CHAIN in
[14:13], DIR in [12], CIPH in [11:8], OP in [7:0]. -/
def CmdFields.word (f : CmdFields) : Word := f.rsv ++ f.ivp ++ f.chain ++ f.dir ++ f.ciph ++ f.op

/-- The command word of an instruction (30_encoding.md R110). -/
def encode (i : Instr) : Word := i.fields.word

/-- The `match` column of the instruction's row of 30_encoding.md R105. -/
def rowMatch : Instr → Word
  | .expandAes => 0x00000001
  | .expandRc6 => 0x00000101
  | .expandBf => 0x00000201
  | .expandIdea => 0x00000301
  | .expandArc4 => 0x00000401
  | .encbAes => 0x00000002
  | .encbRc6 => 0x00000102
  | .encbBf => 0x00000202
  | .encbIdea => 0x00000302
  | .decbAes => 0x00000003
  | .decbRc6 => 0x00000103
  | .decbBf => 0x00000203
  | .decbIdea => 0x00000303
  | .ksnext => 0x00000404
  | .pad _ => 0x00000005
  | .unpad _ => 0x00000006
  | .run _ _ _ _ => 0x00000007
  | .runArc4 _ => 0x00000407
  | .clear => 0x00000008

/-- The `mask` column of the instruction's row of 30_encoding.md R105. -/
def rowMask : Instr → Word
  | .expandAes => 0xFFFFFFFF
  | .expandRc6 => 0xFFFFFFFF
  | .expandBf => 0xFFFFFFFF
  | .expandIdea => 0xFFFFFFFF
  | .expandArc4 => 0xFFFFFFFF
  | .encbAes => 0xFFFFFFFF
  | .encbRc6 => 0xFFFFFFFF
  | .encbBf => 0xFFFFFFFF
  | .encbIdea => 0xFFFFFFFF
  | .decbAes => 0xFFFFFFFF
  | .decbRc6 => 0xFFFFFFFF
  | .decbBf => 0xFFFFFFFF
  | .decbIdea => 0xFFFFFFFF
  | .ksnext => 0xFFFFFFFF
  | .pad _ => 0xFFFFFCFF
  | .unpad _ => 0xFFFFFCFF
  | .run _ _ _ _ => 0xFFFF4CFF
  | .runArc4 _ => 0xFFFFEFFF
  | .clear => 0xFFFFFFFF

end Sys2Proof
end

