-- ==== Sys2Proof/Machine/Operands.lean ====
section
/-! DEFINITION. The operands of the commands: the block size and the key lengths of a cipher
(00_scope.md R6, R7), and the strings a command reads from the core byte space (30_encoding.md R100,
R103). -/

namespace Sys2Proof.Machine

/-- `bs(c)` (00_scope.md R6). -/
def blockSize : BlockCipher → Nat
  | .aes => 16
  | .rc6 => 16
  | .bf => 8
  | .idea => 8

/-- `n in keyset(c)` (00_scope.md R7). -/
def keyLengthOk : Cipher → Nat → Bool
  | .aes, n => n == 16 || n == 24 || n == 32
  | .rc6, n => n == 16 || n == 24 || n == 32
  | .bf, n => 4 ≤ n && n ≤ 56
  | .idea, n => n == 16
  | .arc4, n => 1 ≤ n && n ≤ 256

/-- KEY[0..KEYLEN) (10_state.md R41, R50). -/
def State.key (s : State) : Bytes := s.mem.readBytes keyBase s.keylen.toNat

/-- IBUF[0..MSGLEN) (10_state.md R42, R51). -/
def State.message (s : State) : Bytes := s.mem.readBytes ibufBase s.msglen.toNat

/-- DATA[0..n) (10_state.md R48). -/
def State.dataBlock (n : Nat) (s : State) : Bytes := s.mem.readBytes dataBase n

/-- IV[0..n) (10_state.md R49). -/
def State.iv (n : Nat) (s : State) : Bytes := s.mem.readBytes ivBase n

/-- OBUF[0..OUTLEN) (10_state.md R43, R52). -/
def State.output (s : State) : Bytes := s.mem.readBytes obufBase s.outlen.toNat

/-- KEYLEN as the offending length of `InvalidKeyLength` (10_state.md R46). -/
def State.keylenInfo (s : State) : Half := s.keylen.setWidth 16

/-- MSGLEN >= BUF_BYTES: the message does not fit (10_state.md R42, 60_exceptions.md R407). -/
def State.tooLong (s : State) : Bool := s.params.bufBytes ≤ s.msglen.toNat

end Sys2Proof.Machine
end

