-- ==== Sys2Proof/Machine/Aes.lean ====
section
/-! DEFINITION. The AES engine (43_aes.md). The state of the
cipher is four columns of four bytes: column c, byte r is s[r][c] (R183). -/

namespace Sys2Proof.Machine

/-! ## Field arithmetic and constants -/

/-- `xtime(b)` (43_aes.md R180). -/
def xtime (b : Byte) : Byte := (b <<< 1) ^^^ (if b.getLsbD 7 then 0x1B else 0x00)

/-- The exclusive-or of `xtime^k(a)` over the set bits k < n of b (43_aes.md R180). -/
def gmulBits : Nat → Byte → Byte → Byte
  | 0, _, _ => 0
  | n + 1, a, b => (if b.getLsbD 0 then a else 0) ^^^ gmulBits n (xtime a) (b >>> 1)

/-- `a • b` in GF(2^8) (43_aes.md R180). -/
def gmul (a b : Byte) : Byte := gmulBits 8 a b

/-- The inverse in GF(2^8), with 0^-1 = 0, as the 254th power (43_aes.md R181; the group of the non-zero
elements has 255 of them). The S-box of the machine is the normative table R198; this states its
formula. -/
def gfInv (b : Byte) : Byte :=
  let x := (fun x => gmul (gmul x x) b)^[6] b
  gmul x x

/-- The S-box by its formula (43_aes.md R181). -/
def sboxFormula (x : Byte) : Byte :=
  let b := gfInv x
  b ^^^ b.rotateLeft 1 ^^^ b.rotateLeft 2 ^^^ b.rotateLeft 3 ^^^ b.rotateLeft 4 ^^^ 0x63

/-- `Sbox(x)`: the normative table (43_aes.md R181, R198). -/
def sbox (x : Byte) : Byte := sboxTable.getD x.toNat 0

/-- `InvSbox(x)`: the normative table (43_aes.md R182, R199). -/
def invSbox (x : Byte) : Byte := invSboxTable.getD x.toNat 0

/-- `Rcon[i]`, i from 1 (43_aes.md R184). -/
def rcon (i : Nat) : Quad := ⟨xtime^[i - 1] 0x01, 0, 0, 0⟩

/-! ## Subkey expansion -/

/-- `RotWord` (43_aes.md R185). -/
def rotWord (q : Quad) : Quad := ⟨q.b1, q.b2, q.b3, q.b0⟩

/-- `SubWord`, and SubBytes on one column (43_aes.md R185, R186). -/
def subWord (q : Quad) : Quad := ⟨sbox q.b0, sbox q.b1, sbox q.b2, sbox q.b3⟩

/-- The word t that w[i] is made with (43_aes.md R185). -/
def aesTemp (nk i : Nat) (t : Quad) : Quad :=
  if i % nk = 0 then (subWord (rotWord t)).xor (rcon (i / nk))
  else if nk = 8 ∧ i % nk = 4 then subWord t
  else t

/-- `n` more words of the expansion; the next index is the length of what stands (43_aes.md R185). -/
def aesExtend (nk : Nat) : Nat → List Quad → List Quad
  | 0, w => w
  | n + 1, w =>
    let i := w.length
    aesExtend nk n
      (w ++ [(w.getD (i - nk) Quad.zero).xor (aesTemp nk i (w.getD (i - 1) Quad.zero))])

/-- Four bytes of a string as a 4-byte word: `K[4i .. 4i+4)`. -/
def quadAt (b : Bytes) (i : Nat) : Quad :=
  ⟨byteAt b (4 * i), byteAt b (4 * i + 1), byteAt b (4 * i + 2), byteAt b (4 * i + 3)⟩

/-- The bytes of a 4-byte word. -/
def quadBytes (q : Quad) : Bytes := [q.b0, q.b1, q.b2, q.b3]

/-- `aes_expand(K)` (43_aes.md R185). -/
def aesExpand (k : Bytes) : BlockSchedule :=
  let nk := k.length / 4
  let nr := nk + 6
  .aes nr (aesExtend nk (4 * (nr + 1) - nk) ((List.range nk).map (quadAt k)))

/-! ## Round transformations -/

/-- The AES state: its four columns (43_aes.md R183). -/
structure AesBlock where
  c0 : Quad
  c1 : Quad
  c2 : Quad
  c3 : Quad
deriving DecidableEq, Repr

/-- A block enters column by column: `s[r][c] = B[r + 4c]` (43_aes.md R183). -/
def aesLoad (b : Bytes) : AesBlock := ⟨quadAt b 0, quadAt b 1, quadAt b 2, quadAt b 3⟩

/-- A block leaves column by column (43_aes.md R183). -/
def aesStore (s : AesBlock) : Bytes :=
  quadBytes s.c0 ++ quadBytes s.c1 ++ quadBytes s.c2 ++ quadBytes s.c3

/-- Apply a function to every column. -/
def AesBlock.mapColumns (f : Quad → Quad) (s : AesBlock) : AesBlock := ⟨f s.c0, f s.c1, f s.c2, f s.c3⟩

/-- `SubBytes` (43_aes.md R186). -/
def subBytes (s : AesBlock) : AesBlock := s.mapColumns subWord

/-- `ShiftRows`: `s'[r][c] = s[r][(c + r) mod 4]` (43_aes.md R187). -/
def shiftRows (s : AesBlock) : AesBlock :=
  ⟨⟨s.c0.b0, s.c1.b1, s.c2.b2, s.c3.b3⟩,
   ⟨s.c1.b0, s.c2.b1, s.c3.b2, s.c0.b3⟩,
   ⟨s.c2.b0, s.c3.b1, s.c0.b2, s.c1.b3⟩,
   ⟨s.c3.b0, s.c0.b1, s.c1.b2, s.c2.b3⟩⟩

/-- One column of `MixColumns` (43_aes.md R188). -/
def mixColumn (q : Quad) : Quad :=
  ⟨gmul 0x02 q.b0 ^^^ gmul 0x03 q.b1 ^^^ q.b2 ^^^ q.b3,
   q.b0 ^^^ gmul 0x02 q.b1 ^^^ gmul 0x03 q.b2 ^^^ q.b3,
   q.b0 ^^^ q.b1 ^^^ gmul 0x02 q.b2 ^^^ gmul 0x03 q.b3,
   gmul 0x03 q.b0 ^^^ q.b1 ^^^ q.b2 ^^^ gmul 0x02 q.b3⟩

/-- `MixColumns` (43_aes.md R188). -/
def mixColumns (s : AesBlock) : AesBlock := s.mapColumns mixColumn

/-- `AddRoundKey(s, rnd)`: column c takes the word w[4*rnd + c] (43_aes.md R189). -/
def addRoundKey (w : List Quad) (rnd : Nat) (s : AesBlock) : AesBlock :=
  ⟨s.c0.xor (w.getD (4 * rnd) Quad.zero), s.c1.xor (w.getD (4 * rnd + 1) Quad.zero),
   s.c2.xor (w.getD (4 * rnd + 2) Quad.zero), s.c3.xor (w.getD (4 * rnd + 3) Quad.zero)⟩

/-- `InvShiftRows`: `s'[r][(c + r) mod 4] = s[r][c]` (43_aes.md R190). -/
def invShiftRows (s : AesBlock) : AesBlock :=
  ⟨⟨s.c0.b0, s.c3.b1, s.c2.b2, s.c1.b3⟩,
   ⟨s.c1.b0, s.c0.b1, s.c3.b2, s.c2.b3⟩,
   ⟨s.c2.b0, s.c1.b1, s.c0.b2, s.c3.b3⟩,
   ⟨s.c3.b0, s.c2.b1, s.c1.b2, s.c0.b3⟩⟩

/-- One column of `InvSubBytes` (43_aes.md R191). -/
def invSubWord (q : Quad) : Quad := ⟨invSbox q.b0, invSbox q.b1, invSbox q.b2, invSbox q.b3⟩

/-- `InvSubBytes` (43_aes.md R191). -/
def invSubBytes (s : AesBlock) : AesBlock := s.mapColumns invSubWord

/-- One column of `InvMixColumns` (43_aes.md R192). -/
def invMixColumn (q : Quad) : Quad :=
  ⟨gmul 0x0E q.b0 ^^^ gmul 0x0B q.b1 ^^^ gmul 0x0D q.b2 ^^^ gmul 0x09 q.b3,
   gmul 0x09 q.b0 ^^^ gmul 0x0E q.b1 ^^^ gmul 0x0B q.b2 ^^^ gmul 0x0D q.b3,
   gmul 0x0D q.b0 ^^^ gmul 0x09 q.b1 ^^^ gmul 0x0E q.b2 ^^^ gmul 0x0B q.b3,
   gmul 0x0B q.b0 ^^^ gmul 0x0D q.b1 ^^^ gmul 0x09 q.b2 ^^^ gmul 0x0E q.b3⟩

/-- `InvMixColumns` (43_aes.md R192). -/
def invMixColumns (s : AesBlock) : AesBlock := s.mapColumns invMixColumn

/-! ## Cipher and inverse cipher -/

/-- `n` full rounds from round `rnd` on (43_aes.md R193). -/
def aesRounds (w : List Quad) : Nat → Nat → AesBlock → AesBlock
  | 0, _, s => s
  | n + 1, rnd, s =>
    aesRounds w n (rnd + 1) (addRoundKey w rnd (mixColumns (shiftRows (subBytes s))))

/-- The cipher on the AES state (43_aes.md R193). -/
def aesCipher (nr : Nat) (w : List Quad) (s : AesBlock) : AesBlock :=
  addRoundKey w nr (shiftRows (subBytes (aesRounds w (nr - 1) 1 (addRoundKey w 0 s))))

/-- The inverse rounds `rnd` downto 1 (43_aes.md R194). -/
def aesInvRounds (w : List Quad) : Nat → AesBlock → AesBlock
  | 0, s => s
  | rnd + 1, s =>
    aesInvRounds w rnd (invMixColumns (addRoundKey w (rnd + 1) (invSubBytes (invShiftRows s))))

/-- The inverse cipher on the AES state (43_aes.md R194). -/
def aesInvCipher (nr : Nat) (w : List Quad) (s : AesBlock) : AesBlock :=
  addRoundKey w 0 (invSubBytes (invShiftRows (aesInvRounds w (nr - 1) (addRoundKey w nr s))))

/-- `aes_encrypt(B, AES(Nr, w))` (43_aes.md R193). -/
def aesEncrypt (nr : Nat) (w : List Quad) (b : Bytes) : Bytes := aesStore (aesCipher nr w (aesLoad b))

/-- `aes_decrypt(B, AES(Nr, w))` (43_aes.md R194). -/
def aesDecrypt (nr : Nat) (w : List Quad) (b : Bytes) : Bytes :=
  aesStore (aesInvCipher nr w (aesLoad b))

end Sys2Proof.Machine
end

