-- ==== Sys2Proof/Machine/Arc4.lean ====
section
/-! DEFINITION. The ARC4 engine (47_arc4.md). All index and table arithmetic is modulo 2^8. -/

namespace Sys2Proof.Machine

/-- `S[x]`. -/
def arc4At (t : List Byte) (x : Byte) : Byte := t.getD x.toNat 0

/-- `swap S[x], S[y]` (00_scope.md R12). -/
def arc4Swap (t : List Byte) (x y : Byte) : List Byte :=
  (t.set x.toNat (arc4At t y)).set y.toNat (arc4At t x)

/-- `n` iterations of the key-scheduling loop from i = `i` on (47_arc4.md R311). -/
def arc4Mix (k : Bytes) : Nat → Nat → List Byte → Byte → List Byte
  | 0, _, t, _ => t
  | n + 1, i, t, j =>
    let x := BitVec.ofNat 8 i
    let j := j + arc4At t x + byteAt k (i % k.length)
    arc4Mix k n (i + 1) (arc4Swap t x j) j

/-- The identity table: `S[x] <- x` (47_arc4.md R311). -/
def arc4Identity : List Byte := (List.range 256).map (BitVec.ofNat 8)

/-- `arc4_ksa(K)`; both indices start at 0 (47_arc4.md R311). -/
def arc4Ksa (k : Bytes) : Arc4State := ⟨arc4Mix k 256 0 arc4Identity 0, 0, 0⟩

/-- The state after one keystream step (47_arc4.md R313). -/
def arc4Next (st : Arc4State) : Arc4State :=
  let i := st.i + 1
  let j := st.j + arc4At st.s i
  ⟨arc4Swap st.s i j, i, j⟩

/-- The keystream byte that the state after a step shows: `S[S[i] + S[j]]` (47_arc4.md R313). -/
def arc4Out (st : Arc4State) : Byte := arc4At st.s (arc4At st.s st.i + arc4At st.s st.j)

/-- The exclusive-or of a message with the keystream from a state on (47_arc4.md R314; 48_pipeline.md
R336). -/
def arc4Xor : Arc4State → Bytes → Bytes
  | _, [] => []
  | st, b :: bs => (b ^^^ arc4Out (arc4Next st)) :: arc4Xor (arc4Next st) bs

/-- `arc4_crypt(D, K)` (47_arc4.md R314). -/
def arc4Crypt (k d : Bytes) : Bytes := arc4Xor (arc4Ksa k) d

end Sys2Proof.Machine
end

