-- ==== Sys2Proof/Machine/Blowfish.lean ====
section
/-! DEFINITION. The Blowfish engine (45_blowfish.md). -/

namespace Sys2Proof.Machine

/-- The initial tables: constants of the hardware (45_blowfish.md R252, R260 to R264). -/
def bfInit : BfTables := ⟨bfInitP, bfInitS0, bfInitS1, bfInitS2, bfInitS3⟩

/-- The two halves (xL, xR) of a block. -/
abbrev Halves := Word × Word

/-- The F function (45_blowfish.md R253). -/
def bfF (t : BfTables) (x : Word) : Word :=
  ((t.s0.getD (x.extractLsb' 24 8).toNat 0 + t.s1.getD (x.extractLsb' 16 8).toNat 0) ^^^
    t.s2.getD (x.extractLsb' 8 8).toNat 0) + t.s3.getD (x.extractLsb' 0 8).toNat 0

/-- One Feistel round with the P-array entry `i`, its swap included (45_blowfish.md R254, R255). -/
def bfRound (t : BfTables) (i : Nat) (x : Halves) : Halves :=
  let l := x.1 ^^^ t.p.getD i 0
  (x.2 ^^^ bfF t l, l)

/-- The rounds i = `i`, `i`+1, .., `n` of them (45_blowfish.md R254). -/
def bfRounds (t : BfTables) : Nat → Nat → Halves → Halves
  | 0, _, x => x
  | n + 1, i, x => bfRounds t n (i + 1) (bfRound t i x)

/-- The rounds i = `n` + 1 downto 2 (45_blowfish.md R255). -/
def bfInvRounds (t : BfTables) : Nat → Halves → Halves
  | 0, x => x
  | n + 1, x => bfInvRounds t n (bfRound t (n + 2) x)

/-- `bf_encipher(xL, xR)` (45_blowfish.md R254). -/
def bfEncipher (t : BfTables) (x : Halves) : Halves :=
  let y := bfRounds t 16 0 x
  (y.2 ^^^ t.p.getD 17 0, y.1 ^^^ t.p.getD 16 0)

/-- `bf_decipher(xL, xR)` (45_blowfish.md R255). -/
def bfDecipher (t : BfTables) (x : Halves) : Halves :=
  let y := bfInvRounds t 16 x
  (y.2 ^^^ t.p.getD 0 0, y.1 ^^^ t.p.getD 1 0)

/-- A block as two big-endian words (45_blowfish.md R251). -/
def bfLoad (b : Bytes) : Halves := (be32 b 0, be32 b 4)

/-- The bytes of two big-endian words (45_blowfish.md R251). -/
def bfStore (x : Halves) : Bytes := be32Bytes x.1 ++ be32Bytes x.2

/-- `bf_encrypt(B, k)` (45_blowfish.md R254). -/
def bfEncrypt (t : BfTables) (b : Bytes) : Bytes := bfStore (bfEncipher t (bfLoad b))

/-- `bf_decrypt(B, k)` (45_blowfish.md R255). -/
def bfDecrypt (t : BfTables) (b : Bytes) : Bytes := bfStore (bfDecipher t (bfLoad b))

/-- The key word d for P[i]: four key bytes, the key cycled; before P[i] the index j has advanced 4*i
times (45_blowfish.md R256). -/
def bfKeyWord (k : Bytes) (i : Nat) : Word :=
  let n := k.length
  byteAt k (4 * i % n) ++ byteAt k ((4 * i + 1) % n) ++ byteAt k ((4 * i + 2) % n) ++
    byteAt k ((4 * i + 3) % n)

/-- The exclusive-or of the key into P (45_blowfish.md R256). -/
def bfMixKey (k : Bytes) (p : List Word) : List Word :=
  (List.range 18).map fun i => p.getD i 0 ^^^ bfKeyWord k i

/-- The tables and the chaining value (xL, xR) in the course of the expansion (45_blowfish.md R256). -/
abbrev BfWork := BfTables × Halves

/-- One encipherment that replaces a pair of words, with the tables as they stand (45_blowfish.md R256). -/
def bfReplace (put : BfTables → Word → Word → BfTables) (x : BfWork) : BfWork :=
  let y := bfEncipher x.1 x.2
  (put x.1 y.1 y.2, y)

/-- Replace the words i, i+1 of a table. -/
def setPair (l : List Word) (i : Nat) (a b : Word) : List Word := (l.set i a).set (i + 1) b

/-- Replace the words 2m, 2m+1 of P (45_blowfish.md R256). -/
def bfPutP (m : Nat) (t : BfTables) (a b : Word) : BfTables := { t with p := setPair t.p (2 * m) a b }

/-- Replace the words 2m, 2m+1 of S0 (45_blowfish.md R256). -/
def bfPutS0 (m : Nat) (t : BfTables) (a b : Word) : BfTables := { t with s0 := setPair t.s0 (2 * m) a b }

/-- Replace the words 2m, 2m+1 of S1 (45_blowfish.md R256). -/
def bfPutS1 (m : Nat) (t : BfTables) (a b : Word) : BfTables := { t with s1 := setPair t.s1 (2 * m) a b }

/-- Replace the words 2m, 2m+1 of S2 (45_blowfish.md R256). -/
def bfPutS2 (m : Nat) (t : BfTables) (a b : Word) : BfTables := { t with s2 := setPair t.s2 (2 * m) a b }

/-- Replace the words 2m, 2m+1 of S3 (45_blowfish.md R256). -/
def bfPutS3 (m : Nat) (t : BfTables) (a b : Word) : BfTables := { t with s3 := setPair t.s3 (2 * m) a b }

/-- `n` replacements of the pairs m, m+1, .. of one table (45_blowfish.md R256). -/
def bfFill (put : Nat → BfTables → Word → Word → BfTables) : Nat → Nat → BfWork → BfWork
  | 0, _, x => x
  | n + 1, m, x => bfFill put n (m + 1) (bfReplace (put m) x)

/-- The tables of `bf_expand(K)` (45_blowfish.md R256): 9 encipherings replace P and 128 each box, the
chaining value running on. -/
def bfExpandTables (k : Bytes) : BfTables :=
  let x : BfWork := ({ bfInit with p := bfMixKey k bfInit.p }, (0, 0))
  let x := bfFill bfPutP 9 0 x
  let x := bfFill bfPutS0 128 0 x
  let x := bfFill bfPutS1 128 0 x
  let x := bfFill bfPutS2 128 0 x
  (bfFill bfPutS3 128 0 x).1

/-- `bf_expand(K)` (45_blowfish.md R256). -/
def bfExpand (k : Bytes) : BlockSchedule := .bf (bfExpandTables k)

end Sys2Proof.Machine
end

