-- ==== Sys2Proof/Machine/Idea.lean ====
section
/-! DEFINITION. The IDEA engine (46_idea.md). -/

namespace Sys2Proof.Machine

/-- The number a word stands for under ⊙: 0 stands for 2^16 (46_idea.md R281). -/
def ideaNum (a : Half) : Nat := if a = 0 then 65536 else a.toNat

/-- `a ⊙ b` (46_idea.md R281). The result 2^16 becomes the word 0 by its 16 bits. -/
def ideaMul (a b : Half) : Half := BitVec.ofNat 16 (ideaNum a * ideaNum b % 65537)

/-- `inv(x)`, the word y with x ⊙ y = 1 (46_idea.md R281), as the 65535th power of x under ⊙: the group
has 2^16 elements (DEDUCED, log 11). -/
def ideaInv (x : Half) : Half := (fun y => ideaMul (ideaMul y y) x)^[15] x

/-- `neg(x)`, the additive inverse (46_idea.md R280). -/
def ideaNeg (x : Half) : Half := -x

/-- The 128-bit key number κ, K[0] the most significant byte (46_idea.md R282). -/
def ideaKeyNumber (k : Bytes) : BitVec 128 :=
  k.foldl (fun x b => (x <<< 8) ||| b.setWidth 128) 0

/-- The 8 words of κ, most significant first (46_idea.md R283). -/
def ideaKeyWords (x : BitVec 128) : List Half :=
  (List.range 8).map fun m => x.extractLsb' (112 - 16 * m) 16

/-- `n` groups of 8 words, κ rotated left by 25 after each (46_idea.md R283). -/
def ideaGroups : Nat → BitVec 128 → List Half
  | 0, _ => []
  | n + 1, x => ideaKeyWords x ++ ideaGroups n (x.rotateLeft 25)

/-- `idea_enc_keys(K)`: Z[1 .. 52] (46_idea.md R283). -/
def ideaEncKeys (k : Bytes) : List Half := (ideaGroups 7 (ideaKeyNumber k)).take 52

/-- Entry n of a table numbered from 1 (46_idea.md R283). -/
def keyAt (t : List Half) (n : Nat) : Half := t.getD (n - 1) 0

/-- The decryption subkeys DK[6r-5 ..] of round r, four of them in round 9 (46_idea.md R284). -/
def ideaDecRound (z : List Half) (r : Nat) : List Half :=
  let e := 6 * (9 - r)
  let adds :=
    if r = 1 ∨ r = 9 then [ideaNeg (keyAt z (e + 2)), ideaNeg (keyAt z (e + 3))]
    else [ideaNeg (keyAt z (e + 3)), ideaNeg (keyAt z (e + 2))]
  let tail := if r ≤ 8 then [keyAt z (6 * (8 - r) + 5), keyAt z (6 * (8 - r) + 6)] else []
  [ideaInv (keyAt z (e + 1))] ++ adds ++ [ideaInv (keyAt z (e + 4))] ++ tail

/-- `idea_dec_keys(Z)`: DK[1 .. 52] (46_idea.md R284). -/
def ideaDecKeys (z : List Half) : List Half := (List.range' 1 9).flatMap (ideaDecRound z)

/-- `idea_expand(K)` (46_idea.md R285). -/
def ideaExpand (k : Bytes) : BlockSchedule :=
  let z := ideaEncKeys k
  .idea z (ideaDecKeys z)

/-- The four words of a block. -/
structure IdeaBlock where
  x1 : Half
  x2 : Half
  x3 : Half
  x4 : Half
deriving DecidableEq, Repr

/-- A block as four big-endian 16-bit words (46_idea.md R282). -/
def ideaLoad (b : Bytes) : IdeaBlock := ⟨be16 b 0, be16 b 2, be16 b 4, be16 b 6⟩

/-- The bytes of four big-endian 16-bit words (46_idea.md R282). -/
def ideaStore (x : IdeaBlock) : Bytes :=
  be16Bytes x.x1 ++ be16Bytes x.x2 ++ be16Bytes x.x3 ++ be16Bytes x.x4

/-- Round r of the data path (46_idea.md R286). -/
def ideaRound (t : List Half) (r : Nat) (x : IdeaBlock) : IdeaBlock :=
  let k := 6 * (r - 1)
  let a := ideaMul x.x1 (keyAt t (k + 1))
  let b := x.x2 + keyAt t (k + 2)
  let c := x.x3 + keyAt t (k + 3)
  let d := ideaMul x.x4 (keyAt t (k + 4))
  let e := ideaMul (a ^^^ c) (keyAt t (k + 5))
  let f := ideaMul ((b ^^^ d) + e) (keyAt t (k + 6))
  let e := e + f
  ⟨a ^^^ f, c ^^^ f, b ^^^ e, d ^^^ e⟩

/-- `n` rounds from round `r` on (46_idea.md R286). -/
def ideaRounds (t : List Half) : Nat → Nat → IdeaBlock → IdeaBlock
  | 0, _, x => x
  | n + 1, r, x => ideaRounds t n (r + 1) (ideaRound t r x)

/-- The output transformation (46_idea.md R286). -/
def ideaOutput (t : List Half) (x : IdeaBlock) : IdeaBlock :=
  ⟨ideaMul x.x1 (keyAt t 49), x.x3 + keyAt t 50, x.x2 + keyAt t 51, ideaMul x.x4 (keyAt t 52)⟩

/-- `idea_crypt(B, T[1 .. 52])` (46_idea.md R286). -/
def ideaCrypt (t : List Half) (b : Bytes) : Bytes :=
  ideaStore (ideaOutput t (ideaRounds t 8 1 (ideaLoad b)))

end Sys2Proof.Machine
end

