-- ==== Sys2Proof/Machine/Rc6.lean ====
section
/-! DEFINITION. The RC6 engine, RC6-32/20/b (44_rc6.md). -/

namespace Sys2Proof.Machine

/-- The magic constant P32 (44_rc6.md R220). -/
def rc6P : Word := 0xB7E15163

/-- The magic constant Q32 (44_rc6.md R220). -/
def rc6Q : Word := 0x9E3779B9

/-- `rotl32(x, n)`; the rotation reduces n mod 32 (00_scope.md R11). -/
def rotl32 (x : Word) (n : Nat) : Word := x.rotateLeft (n % 32)

/-- `rotr32(x, n)` (00_scope.md R11). -/
def rotr32 (x : Word) (n : Nat) : Word := x.rotateRight (n % 32)

/-- The quadratic function f(x) = x * (2x + 1) mod 2^32 (44_rc6.md R223). -/
def rc6F (x : Word) : Word := x * (2 * x + 1)

/-- `S[0] = P32; S[i] = S[i-1] + Q32`, the `n` words from the value `x` on (44_rc6.md R222). -/
def rc6Init : Nat → Word → List Word
  | 0, _ => []
  | n + 1, x => x :: rc6Init n (x + rc6Q)

/-- The working state of the key mixing (44_rc6.md R222). -/
structure Rc6Mix where
  s : List Word
  l : List Word
  a : Word
  b : Word
  i : Nat
  j : Nat

/-- One step of the key mixing with a key of `c` words (44_rc6.md R222). -/
def rc6MixStep (c : Nat) (x : Rc6Mix) : Rc6Mix :=
  let a := rotl32 (x.s.getD x.i 0 + x.a + x.b) 3
  let b := rotl32 (x.l.getD x.j 0 + a + x.b) (a + x.b).toNat
  { s := x.s.set x.i a
    l := x.l.set x.j b
    a := a
    b := b
    i := (x.i + 1) % 44
    j := (x.j + 1) % c }

/-- `rc6_expand(K)` (44_rc6.md R222). -/
def rc6Expand (k : Bytes) : BlockSchedule :=
  let c := k.length / 4
  let x : Rc6Mix :=
    { s := rc6Init 44 rc6P
      l := (List.range c).map (fun n => le32 k (4 * n))
      a := 0
      b := 0
      i := 0
      j := 0 }
  .rc6 ((rc6MixStep c)^[3 * max c 44] x).s

/-- The four words of a block. -/
structure Rc6Block where
  a : Word
  b : Word
  c : Word
  d : Word
deriving DecidableEq, Repr

/-- A block as four little-endian words (44_rc6.md R221). -/
def rc6Load (b : Bytes) : Rc6Block := ⟨le32 b 0, le32 b 4, le32 b 8, le32 b 12⟩

/-- The bytes of four little-endian words (44_rc6.md R221). -/
def rc6Store (x : Rc6Block) : Bytes :=
  le32Bytes x.a ++ le32Bytes x.b ++ le32Bytes x.c ++ le32Bytes x.d

/-- Round i of the encryption (44_rc6.md R224). -/
def rc6Round (s : List Word) (i : Nat) (x : Rc6Block) : Rc6Block :=
  let t := rotl32 (rc6F x.b) 5
  let u := rotl32 (rc6F x.d) 5
  let a := rotl32 (x.a ^^^ t) u.toNat + s.getD (2 * i) 0
  let c := rotl32 (x.c ^^^ u) t.toNat + s.getD (2 * i + 1) 0
  ⟨x.b, c, x.d, a⟩

/-- Round i of the decryption (44_rc6.md R225). -/
def rc6InvRound (s : List Word) (i : Nat) (x : Rc6Block) : Rc6Block :=
  let a := x.d
  let b := x.a
  let c := x.b
  let d := x.c
  let u := rotl32 (rc6F d) 5
  let t := rotl32 (rc6F b) 5
  ⟨rotr32 (a - s.getD (2 * i) 0) u.toNat ^^^ t, b,
   rotr32 (c - s.getD (2 * i + 1) 0) t.toNat ^^^ u, d⟩

/-- `n` rounds from round `i` on, ascending (44_rc6.md R224). -/
def rc6Rounds (s : List Word) : Nat → Nat → Rc6Block → Rc6Block
  | 0, _, x => x
  | n + 1, i, x => rc6Rounds s n (i + 1) (rc6Round s i x)

/-- The inverse rounds i downto 1 (44_rc6.md R225). -/
def rc6InvRounds (s : List Word) : Nat → Rc6Block → Rc6Block
  | 0, x => x
  | i + 1, x => rc6InvRounds s i (rc6InvRound s (i + 1) x)

/-- The encryption of four words (44_rc6.md R224). -/
def rc6Cipher (s : List Word) (x : Rc6Block) : Rc6Block :=
  let y := rc6Rounds s 20 1 ⟨x.a, x.b + s.getD 0 0, x.c, x.d + s.getD 1 0⟩
  ⟨y.a + s.getD 42 0, y.b, y.c + s.getD 43 0, y.d⟩

/-- The decryption of four words (44_rc6.md R225). -/
def rc6InvCipher (s : List Word) (x : Rc6Block) : Rc6Block :=
  let y := rc6InvRounds s 20 ⟨x.a - s.getD 42 0, x.b, x.c - s.getD 43 0, x.d⟩
  ⟨y.a, y.b - s.getD 0 0, y.c, y.d - s.getD 1 0⟩

/-- `rc6_encrypt(Blk, RC6(S))` (44_rc6.md R224). -/
def rc6Encrypt (s : List Word) (b : Bytes) : Bytes := rc6Store (rc6Cipher s (rc6Load b))

/-- `rc6_decrypt(Blk, RC6(S))` (44_rc6.md R225). -/
def rc6Decrypt (s : List Word) (b : Bytes) : Bytes := rc6Store (rc6InvCipher s (rc6Load b))

end Sys2Proof.Machine
end

