-- ==== Sys2Proof/Machine/KeySchedule.lean ====
section
/-! DEFINITION. The EXPAND commands (41_key_schedule.md R150 to R154). -/

namespace Sys2Proof.Machine

/-- `expand_c` of a block cipher (41_key_schedule.md, table). -/
def expandBlock : BlockCipher → Bytes → BlockSchedule
  | .aes, k => aesExpand k
  | .rc6, k => rc6Expand k
  | .bf, k => bfExpand k
  | .idea, k => ideaExpand k

/-- `expand_c` (41_key_schedule.md, table). -/
def expandKey : Cipher → Bytes → Schedule
  | .aes, k => .block (expandBlock .aes k)
  | .rc6, k => .block (expandBlock .rc6 k)
  | .bf, k => .block (expandBlock .bf k)
  | .idea, k => .block (expandBlock .idea k)
  | .arc4, k => .arc4 (arc4Ksa k)

/-- EXPAND c, the common part (41_key_schedule.md R150): the old schedule is discarded first, so that a
rejected key leaves the store None. -/
def expandCommand (c : Cipher) (s : State) : Host.Outcome State Fault Refusal :=
  if keyLengthOk c s.keylen.toNat then .next ((s.setSched (some (expandKey c s.key))).succeed)
  else .next (s.raise .expand .invalidKeyLength s.keylenInfo)

/-- EXPAND AES (43_aes.md R195). -/
def execExpandAes (s : State) : Host.Outcome State Fault Refusal := expandCommand .aes s

/-- EXPAND RC6 (44_rc6.md R226). -/
def execExpandRc6 (s : State) : Host.Outcome State Fault Refusal := expandCommand .rc6 s

/-- EXPAND BF (45_blowfish.md R257). -/
def execExpandBf (s : State) : Host.Outcome State Fault Refusal := expandCommand .bf s

/-- EXPAND IDEA (46_idea.md R288). -/
def execExpandIdea (s : State) : Host.Outcome State Fault Refusal := expandCommand .idea s

/-- EXPAND ARC4 (47_arc4.md R312). -/
def execExpandArc4 (s : State) : Host.Outcome State Fault Refusal := expandCommand .arc4 s

end Sys2Proof.Machine
end

