-- ==== Sys2Proof/Machine/BlockCommands.lean ====
section
/-! DEFINITION. The single-block commands ENCB and DECB, and the keystream step KSNEXT: the commands
that run under the schedule store (43_aes.md R196, R197; 44_rc6.md R227, R228; 45_blowfish.md R258,
R259; 46_idea.md R289, R290; 47_arc4.md R313). -/

namespace Sys2Proof.Machine

/-- The ending `NotKeyed` (60_exceptions.md R406). -/
def notKeyed (s : State) : Host.Outcome State Fault Refusal := .next (s.raise .keyed .notKeyed 0)

/-- The ending of a single-block command with its result in DATA; the bytes past the result stay as
they are (10_state.md R48). -/
def blockResult (v : Bytes) (s : State) : Host.Outcome State Fault Refusal :=
  .next (s.writeData v).succeed

/-- ENCB AES (43_aes.md R196). -/
def execEncbAes (s : State) : Host.Outcome State Fault Refusal :=
  match s.sched with
  | some (.block (.aes nr w)) => blockResult (aesEncrypt nr w (s.dataBlock 16)) s
  | _ => notKeyed s

/-- DECB AES (43_aes.md R197). -/
def execDecbAes (s : State) : Host.Outcome State Fault Refusal :=
  match s.sched with
  | some (.block (.aes nr w)) => blockResult (aesDecrypt nr w (s.dataBlock 16)) s
  | _ => notKeyed s

/-- ENCB RC6 (44_rc6.md R227). -/
def execEncbRc6 (s : State) : Host.Outcome State Fault Refusal :=
  match s.sched with
  | some (.block (.rc6 k)) => blockResult (rc6Encrypt k (s.dataBlock 16)) s
  | _ => notKeyed s

/-- DECB RC6 (44_rc6.md R228). -/
def execDecbRc6 (s : State) : Host.Outcome State Fault Refusal :=
  match s.sched with
  | some (.block (.rc6 k)) => blockResult (rc6Decrypt k (s.dataBlock 16)) s
  | _ => notKeyed s

/-- ENCB BF (45_blowfish.md R258). -/
def execEncbBf (s : State) : Host.Outcome State Fault Refusal :=
  match s.sched with
  | some (.block (.bf t)) => blockResult (bfEncrypt t (s.dataBlock 8)) s
  | _ => notKeyed s

/-- DECB BF (45_blowfish.md R259). -/
def execDecbBf (s : State) : Host.Outcome State Fault Refusal :=
  match s.sched with
  | some (.block (.bf t)) => blockResult (bfDecrypt t (s.dataBlock 8)) s
  | _ => notKeyed s

/-- ENCB IDEA (46_idea.md R289). -/
def execEncbIdea (s : State) : Host.Outcome State Fault Refusal :=
  match s.sched with
  | some (.block (.idea z _)) => blockResult (ideaCrypt z (s.dataBlock 8)) s
  | _ => notKeyed s

/-- DECB IDEA (46_idea.md R290). -/
def execDecbIdea (s : State) : Host.Outcome State Fault Refusal :=
  match s.sched with
  | some (.block (.idea _ dk)) => blockResult (ideaCrypt dk (s.dataBlock 8)) s
  | _ => notKeyed s

/-- KSNEXT (47_arc4.md R313). -/
def execKsnext (s : State) : Host.Outcome State Fault Refusal :=
  match s.sched with
  | some (.arc4 st) =>
    .next ((s.setKsbyte (arc4Out (arc4Next st))).setSched (some (.arc4 (arc4Next st)))).succeed
  | _ => notKeyed s

end Sys2Proof.Machine
end

