-- ==== Sys2Proof/Machine/BlockUtils.lean ====
section
/-! DEFINITION. Padding, unpadding, splitting and joining, and the commands PAD and UNPAD
(40_block_utils.md). -/

namespace Sys2Proof.Machine

/-- `pad(D, bs)` (40_block_utils.md R130). -/
def pad (bs : Nat) (d : Bytes) : Bytes :=
  let p := bs - d.length % bs
  d ++ rep (BitVec.ofNat 8 p) p

/-- `unpad(D, bs)`; none is the failure `PaddingError` (40_block_utils.md R131). -/
def unpad (bs : Nat) (d : Bytes) : Option Bytes :=
  let n := d.length
  if n = 0 ∨ n % bs ≠ 0 then none
  else
    let p := byteAt d (n - 1)
    if p = 0 ∨ bs < p.toNat then none
    else if (d.drop (n - p.toNat)).any (fun b => b != p) then none
    else some (d.take (n - p.toNat))

/-- `split(D, bs)` (40_block_utils.md R132). -/
def split (bs : Nat) (d : Bytes) : List Bytes :=
  (List.range (d.length / bs)).map fun k => slice d (k * bs) bs

/-- `join` (40_block_utils.md R132). -/
def join (bs : List Bytes) : Bytes := bs.flatten

/-- PAD c (40_block_utils.md R133). -/
def execPad (c : BlockCipher) (s : State) : Host.Outcome State Fault Refusal :=
  if s.tooLong then .next (s.raise .padding .lengthError s.msglen)
  else .next (s.writeOutput (pad (blockSize c) s.message)).succeed

/-- UNPAD c (40_block_utils.md R134). -/
def execUnpad (c : BlockCipher) (s : State) : Host.Outcome State Fault Refusal :=
  if s.tooLong then .next (s.raise .padding .lengthError s.msglen)
  else
    match unpad (blockSize c) s.message with
    | none => .next (s.raise .padding .paddingError s.msglen)
    | some d => .next (s.writeOutput d).succeed

end Sys2Proof.Machine
end

