-- ==== Sys2Proof/Machine/Control.lean ====
section
/-! DEFINITION. The control command CLEAR (49_control.md). -/

namespace Sys2Proof.Machine

/-- `sched <- None; KSBYTE <- 0; KEY[0 .. 256) <- 0; KEYLEN <- 0` (49_control.md R360). -/
def State.discardKey (s : State) : State :=
  { s with
    sched := none
    ksbyte := 0
    keylen := 0
    mem := s.mem.zeroFill keyBase 256 }

/-- CLEAR (49_control.md R360). -/
def execClear (s : State) : Host.Outcome State Fault Refusal := .next s.discardKey.succeed

end Sys2Proof.Machine
end

