-- ==== Sys2Proof/Machine/Pipeline.lean ====
section
/-! DEFINITION. The message pipeline: RUN for the block ciphers and RUN ARC4 (48_pipeline.md). -/

namespace Sys2Proof.Machine

/-- `E_k` (48_pipeline.md, head). -/
def encryptBlock : BlockSchedule → Bytes → Bytes
  | .aes nr w, b => aesEncrypt nr w b
  | .rc6 s, b => rc6Encrypt s b
  | .bf t, b => bfEncrypt t b
  | .idea z _, b => ideaCrypt z b

/-- `D_k` (48_pipeline.md, head). -/
def decryptBlock : BlockSchedule → Bytes → Bytes
  | .aes nr w, b => aesDecrypt nr w b
  | .rc6 s, b => rc6Decrypt s b
  | .bf t, b => bfDecrypt t b
  | .idea _ dk, b => ideaCrypt dk b

/-- CBC encryption of blocks after the chaining value `prev` (48_pipeline.md R333). -/
def cbcEncrypt (e : Bytes → Bytes) : Bytes → List Bytes → List Bytes
  | _, [] => []
  | prev, b :: bs => e (xorBytes b prev) :: cbcEncrypt e (e (xorBytes b prev)) bs

/-- CBC decryption of blocks after the chaining value `prev` (48_pipeline.md R333). -/
def cbcDecrypt (d : Bytes → Bytes) : Bytes → List Bytes → List Bytes
  | _, [] => []
  | prev, c :: cs => xorBytes (d c) prev :: cbcDecrypt d c cs

/-- `chain_encrypt(m, k, B)` (48_pipeline.md R333). -/
def chainEncrypt (m : Chain) (k : BlockSchedule) (iv : Bytes) (bs : List Bytes) : List Bytes :=
  match m with
  | .ecb => bs.map (encryptBlock k)
  | .cbc => cbcEncrypt (encryptBlock k) iv bs

/-- `chain_decrypt(m, k, C)` (48_pipeline.md R333). -/
def chainDecrypt (m : Chain) (k : BlockSchedule) (iv : Bytes) (cs : List Bytes) : List Bytes :=
  match m with
  | .ecb => cs.map (decryptBlock k)
  | .cbc => cbcDecrypt (decryptBlock k) iv cs

/-- `run_encrypt(c, m, k, D)` (48_pipeline.md R331). -/
def runEncrypt (c : BlockCipher) (m : Chain) (k : BlockSchedule) (iv d : Bytes) : Bytes :=
  join (chainEncrypt m k iv (split (blockSize c) (pad (blockSize c) d)))

/-- `run_decrypt(c, m, k, D)`; none is the failure `PaddingError` (48_pipeline.md R332). -/
def runDecrypt (c : BlockCipher) (m : Chain) (k : BlockSchedule) (iv d : Bytes) : Option Bytes :=
  if d.length = 0 ∨ d.length % blockSize c ≠ 0 then none
  else unpad (blockSize c) (join (chainDecrypt m k iv (split (blockSize c) d)))

/-- The output of RUN by direction (48_pipeline.md R330). -/
def runMessage (c : BlockCipher) (d : Dir) (m : Chain) (k : BlockSchedule) (iv x : Bytes) :
    Option Bytes :=
  match d with
  | .enc => some (runEncrypt c m k iv x)
  | .dec => runDecrypt c m k iv x

/-- The ending of a RUN with its result: OBUF and OUTLEN are written and the schedule is discarded
(48_pipeline.md R330, R334). -/
def runResult (out : Bytes) (s : State) : State := ((s.writeOutput out).setSched none).succeed

/-- RUN c, d, m [, IV] (48_pipeline.md R330). The schedule is built from KEY, used, and discarded inside
the one step, so the store only ever shows None after it (R334). -/
def execRun (c : BlockCipher) (d : Dir) (m : Chain) (iv : Bool) (s : State) :
    Host.Outcome State Fault Refusal :=
  if s.tooLong then .next (s.raise .run .lengthError s.msglen)
  else if m = .cbc ∧ iv = false then .next (s.raise .run .missingIV 0)
  else if keyLengthOk c.cipher s.keylen.toNat = false then
    .next (s.raise .run .invalidKeyLength s.keylenInfo)
  else
    match runMessage c d m (expandBlock c s.key) (s.iv (blockSize c)) s.message with
    | none => .next (s.raise .run .paddingError s.msglen)
    | some out => .next (runResult out s)

/-- RUN ARC4, d; DIR selects nothing (48_pipeline.md R336). -/
def execRunArc4 (_d : Dir) (s : State) : Host.Outcome State Fault Refusal :=
  if s.tooLong then .next (s.raise .run .lengthError s.msglen)
  else if keyLengthOk .arc4 s.keylen.toNat = false then
    .next (s.raise .run .invalidKeyLength s.keylenInfo)
  else .next (runResult (arc4Crypt s.key s.message) s)

end Sys2Proof.Machine
end

