-- ==== Sys2Proof/Machine/Dispatch.lean ====
section
/-! DEFINITION. The meaning of every command (30_encoding.md R105), one arm per row. -/

namespace Sys2Proof.Machine

def exec (i : Instr) (s : State) : Host.Outcome State Fault Refusal :=
  match i with
  | .expandAes => Sys2Proof.Machine.execExpandAes s
  | .expandRc6 => Sys2Proof.Machine.execExpandRc6 s
  | .expandBf => Sys2Proof.Machine.execExpandBf s
  | .expandIdea => Sys2Proof.Machine.execExpandIdea s
  | .expandArc4 => Sys2Proof.Machine.execExpandArc4 s
  | .encbAes => Sys2Proof.Machine.execEncbAes s
  | .encbRc6 => Sys2Proof.Machine.execEncbRc6 s
  | .encbBf => Sys2Proof.Machine.execEncbBf s
  | .encbIdea => Sys2Proof.Machine.execEncbIdea s
  | .decbAes => Sys2Proof.Machine.execDecbAes s
  | .decbRc6 => Sys2Proof.Machine.execDecbRc6 s
  | .decbBf => Sys2Proof.Machine.execDecbBf s
  | .decbIdea => Sys2Proof.Machine.execDecbIdea s
  | .ksnext => Sys2Proof.Machine.execKsnext s
  | .pad c => Sys2Proof.Machine.execPad c s
  | .unpad c => Sys2Proof.Machine.execUnpad c s
  | .run c d m iv => Sys2Proof.Machine.execRun c d m iv s
  | .runArc4 d => Sys2Proof.Machine.execRunArc4 d s
  | .clear => Sys2Proof.Machine.execClear s

end Sys2Proof.Machine
end

