-- ==== Sys2Proof/Machine/Engine.lean ====
section
/-! DEFINITION. The engine's step: the completion of the command in flight (10_state.md R38). -/

namespace Sys2Proof.Machine

/-- Run a decoded command word; `Illegal` and `Unknown` end by their errors with no other effect
(30_encoding.md R104, 60_exceptions.md R401, R403). -/
def runDecoded (d : Decoded) (s : State) : Host.Outcome State Fault Refusal :=
  match d with
  | .cmd i => exec i s
  | .illegal => .next (s.raise .decoding .illegalCommand 0)
  | .unknown => .next (s.raise .decoding .unknownCipher 0)

/-- The engine's turn: with a command in flight, its completion (10_state.md R38); with none, nothing
(60_exceptions.md R445, 70_reset_and_hazards.md R450). -/
def engineTurn (s : State) : Host.Outcome State Fault Refusal :=
  match s.pending with
  | some w => runDecoded (decode w) s
  | none => .next s

/-- The turns still to come. -/
def State.setAgenda (l : List Turn) (s : State) : State := { s with agenda := l }

/-- One turn: a host access served, the engine's turn, or power-on reset (20_memory.md R77, R81;
70_reset_and_hazards.md R450). -/
def takeTurn (t : Turn) (s : State) : Host.Outcome State Fault Refusal :=
  match t with
  | .host a => .next (serve a s)
  | .engine => engineTurn s
  | .powerOn => .next s.resetCore

/-- The next turn of the agenda; when none is left the engine has the turn, so that every command
completes (10_state.md R38; D31; log 1). -/
def nextTurn (s : State) : Host.Outcome State Fault Refusal :=
  match s.agenda with
  | [] => engineTurn s
  | t :: rest => takeTurn t (s.setAgenda rest)

/-- The agenda that gives the engine the next turn. -/
def engineFirst : List Turn → List Turn
  | [] => []
  | t :: rest => .engine :: t :: rest

/-- The state with a command word captured and the engine's turn next (log 6). -/
def State.captureNext (w : Word) (s : State) : State :=
  { s with pending := some w, agenda := engineFirst s.agenda }

end Sys2Proof.Machine
end

