-- ==== Sys2Proof/Machine/Step.lean ====
section
/-! DEFINITION. The step of the machine, and the state whose next step runs a given command word. -/

namespace Sys2Proof.Machine

/-- One step: the next turn of the sequence of host accesses and engine steps (20_memory.md R81). -/
def step (s : State) : Host.Outcome State Fault Refusal := nextTurn s

/-- `s` with the command word whose bits are `w` captured in `pending`, where the engine's step takes it
from (10_state.md R37, R38), and with the engine's turn next (log 6). -/
def State.withFetchWord (s : State) (nbits w : Nat) : State :=
  s.captureNext (BitVec.ofNat 32 (w % 2 ^ nbits))

end Sys2Proof.Machine
end

