-- ==== Sys2Proof/Safety.lean ====
section
/-! DEFINITION. What counts as a safe run, in the terms the statements use: the invariant of the
machine, the two endings of a command, and the frames. -/

namespace Sys2Proof.Machine

/-! ## The invariant -/

/-- `a` is the offset of a byte of the core byte space (20_memory.md R72). -/
def inByteSpace (p : Params) (a : Nat) : Bool :=
  inRange dataBase 16 a || inRange ivBase 16 a || inRange keyBase 256 a ||
    inRange ibufBase p.bufBytes a || inRange obufBase p.bufBytes a

/-- A block schedule has the shape 10_state.md R44 gives it, and IDEA's DK is derived from its Z
(46_idea.md R285). -/
def BlockSchedule.shapeOk : BlockSchedule → Prop
  | .aes nr w => (nr = 10 ∨ nr = 12 ∨ nr = 14) ∧ w.length = 4 * nr + 4
  | .rc6 s => s.length = 44
  | .bf t =>
    t.p.length = 18 ∧ t.s0.length = 256 ∧ t.s1.length = 256 ∧ t.s2.length = 256 ∧ t.s3.length = 256
  | .idea z dk => z.length = 52 ∧ dk = ideaDecKeys z

/-- The ARC4 table is a permutation of the 256 bytes (47_arc4.md R310). -/
def Arc4State.isPermutation (st : Arc4State) : Prop := st.s.length = 256 ∧ st.s.Nodup

/-- The schedule store holds a schedule of the shape its rule gives it (10_state.md R44). -/
def Schedule.shapeOk : Schedule → Prop
  | .block k => k.shapeOk
  | .arc4 st => st.isPermutation

/-- The error codes that are ever produced (60_exceptions.md R400, R408, R409). -/
def producedCodes : List (BitVec 4) := [0, 1, 2, 3, 5, 7, 8, 9]

/-- What every step keeps. -/
structure State.Inv (s : State) : Prop where
  /-- The parameters are ones 00_scope.md R5 allows. -/
  params : s.params.wellFormed = true
  /-- Memory is in its canonical form. -/
  memCanonical : s.mem.wf = true
  /-- Memory lists only bytes of the core byte space (20_memory.md R72). -/
  memInSpace : ∀ c ∈ s.mem, inByteSpace s.params c.1 = true
  /-- STATUS.ERR is a code that is produced (60_exceptions.md R408, R409). -/
  errProduced : s.err ∈ producedCodes
  /-- While a command is in flight DONE and ERR are 0 (10_state.md R34, R37). -/
  busyClean : s.busy = true → s.done = false ∧ s.err = 0
  /-- With no command in flight and no error, ERRINFO is 0 (10_state.md R46). -/
  errinfoZero : s.busy = false → s.err = 0 → s.errinfo = 0
  /-- ERRINFO[7:4] is 0 (10_state.md R46). -/
  errinfoReserved : s.errinfo.extractLsb' 4 4 = 0
  /-- OUTLEN is at most BUF_BYTES (10_state.md R52). -/
  outlenFits : s.outlen.toNat ≤ s.params.bufBytes
  /-- What the schedule store holds has its shape. -/
  schedShape : ∀ k, s.sched = some k → k.shapeOk

/-! ## Endings and frames -/

/-- The command ended with success (10_state.md R38). -/
def State.endedWell (t : State) : Prop :=
  t.err = 0 ∧ t.errinfo = 0 ∧ t.done = true ∧ t.pending = none

/-- The command of word `w` ended with error `e` and offending length `len` (10_state.md R38, R46;
60_exceptions.md R400). -/
def State.endedWith (e : CmdError) (w : Word) (len : Half) (t : State) : Prop :=
  t.err = e.code ∧ t.done = true ∧ t.pending = none ∧
    t.errinfo.extractLsb' 0 4 = w.extractLsb' 8 4 ∧ t.errinfo.extractLsb' 4 4 = 0 ∧
    t.errinfo.extractLsb' 8 8 = w.extractLsb' 0 8 ∧ t.errinfo.extractLsb' 16 16 = len

/-- What no command writes: CTRL.IE, STATUS.OVR, MSGLEN, the parameters, and what the model keeps of
the world outside. -/
def State.sameOutsideCommand (s t : State) : Prop :=
  t.params = s.params ∧ t.ie = s.ie ∧ t.ovr = s.ovr ∧ t.msglen = s.msglen ∧
    t.agenda = s.agenda ∧ t.reply = s.reply ∧ t.draws = s.draws

/-- Every byte of memory reads as before. -/
def State.memSame (s t : State) : Prop := ∀ a, t.mem.read a = s.mem.read a

/-- Every byte of memory outside base .. base+n-1 reads as before. -/
def State.memSameOutside (base n : Nat) (s t : State) : Prop :=
  ∀ a, ¬(base ≤ a ∧ a < base + n) → t.mem.read a = s.mem.read a

/-- KEYLEN, OUTLEN, KSBYTE and the schedule store are as before. -/
def State.sameResults (s t : State) : Prop :=
  t.keylen = s.keylen ∧ t.outlen = s.outlen ∧ t.ksbyte = s.ksbyte ∧ t.sched = s.sched

/-- Nothing of the core but STATUS and ERRINFO changed (60_exceptions.md R410). -/
def State.onlyStatus (s t : State) : Prop :=
  s.sameOutsideCommand t ∧ s.sameResults t ∧ s.memSame t

/-- Every field of the core is as before: only the agenda, the bus's reply and the count of draws may
differ (20_memory.md R75). -/
def State.coreSame (s t : State) : Prop :=
  t.params = s.params ∧ t.ie = s.ie ∧ t.done = s.done ∧ t.ovr = s.ovr ∧ t.err = s.err ∧
    t.pending = s.pending ∧ t.keylen = s.keylen ∧ t.msglen = s.msglen ∧ t.outlen = s.outlen ∧
    t.errinfo = s.errinfo ∧ t.ksbyte = s.ksbyte ∧ t.sched = s.sched ∧ t.mem = s.mem

/-- The core of `t` is the core of `s` after a reset (70_reset_and_hazards.md R452): every register and
flag at its reset value, no command in flight, no schedule, and every byte 0x00 when
BUFFER_RESET_CLEARS. -/
def State.coreReset (s t : State) : Prop :=
  t.params = s.params ∧ t.ie = false ∧ t.busy = false ∧ t.done = false ∧ t.ovr = false ∧ t.err = 0 ∧
    t.pending = none ∧ t.keylen = 0 ∧ t.msglen = 0 ∧ t.outlen = 0 ∧ t.errinfo = 0 ∧ t.ksbyte = 0 ∧
    t.sched = none ∧ t.irq = false ∧ (s.params.resetClears = true → ∀ a, t.mem.read a = 0)

/-- OBUF is all zero and OUTLEN is 0 (60_exceptions.md R410). -/
def State.noOutput (t : State) : Prop :=
  t.outlen = 0 ∧ ∀ a, obufBase ≤ a → a < obufBase + t.params.bufBytes → t.mem.read a = 0

/-- A byte of DATA, IV, KEY or IBUF stands at this offset (20_memory.md R72): the byte regions that the
host writes. -/
def hostBytes (p : Params) (off : Nat) : Prop :=
  (0x040 ≤ off ∧ off < 0x060) ∨ (0x100 ≤ off ∧ off < 0x200) ∨
    (0x10000 ≤ off ∧ off < 0x10000 + p.bufBytes)

/-- A reserved offset of the window (20_memory.md R76), for BUF_BYTES <= 32768. -/
def reservedOffset (p : Params) (off : Nat) : Prop :=
  (0x024 ≤ off ∧ off < 0x040) ∨ (0x060 ≤ off ∧ off < 0x100) ∨ (0x200 ≤ off ∧ off < 0x10000) ∨
    (0x10000 + p.bufBytes ≤ off ∧ off < 0x20000) ∨ (0x20000 + p.bufBytes ≤ off ∧ off < 0x30000)

/-- The host's aligned 32-bit read at an offset from BASE (20_memory.md R70, R73). -/
def readAt (p : Params) (off : Nat) : Turn := .host (.read 32 (p.base + off))

/-- The host's aligned 32-bit write at an offset from BASE (20_memory.md R70, R73). -/
def writeAt (p : Params) (off : Nat) (v : Word) : Turn := .host (.write 32 (p.base + off) v)

/-- The turn resets the core: power-on, or the write of CTRL with SRST = 1 (70_reset_and_hazards.md R450,
R451). -/
def Turn.resets (p : Params) : Turn → Bool
  | .powerOn => true
  | .host (.write width addr v) => width == 32 && addr == p.base + 0x004 && v.getLsbD 1
  | .host (.read _ _) => false
  | .engine => false

/-- A run of `n` steps ends in the state `t`. -/
def runsTo (n : Nat) (s t : State) : Prop := Host.Core.run core n s = .next t

end Sys2Proof.Machine
end

