-- ==== Sys2Proof/Certificates/Slice0/Obligations.lean ====
section
/-! DEFINITION. The statements about the model. Hypotheses on the memory's canonical form and on the
parameters are parts of `State.Inv`, which reset meets and every step keeps (stated below). -/

open Sys2Proof Sys2Proof.Machine

/-! ## Encoding -/

/-- Sanity: a few words written out from the columns of 30_encoding.md R105 and R110. -/
def Obligations.WordsOfTheTableDecode : Prop :=
  decode 0x00000201 = .cmd .expandBf ∧ decode 0x00000002 = .cmd .encbAes ∧
    decode 0x00000303 = .cmd .decbIdea ∧ decode 0x00000404 = .cmd .ksnext ∧
    decode 0x00000105 = .cmd (.pad .rc6) ∧ decode 0x00000306 = .cmd (.unpad .idea) ∧
    decode 0x0000B007 = .cmd (.run .aes .dec .cbc true) ∧
    decode 0x00001407 = .cmd (.runArc4 .dec) ∧ decode 0x00000008 = .cmd .clear ∧
    decode 0x00000000 = .illegal ∧ decode 0x00000507 = .unknown

/-- Decode and encode agree, over all words and all instructions: a word decodes to an instruction
exactly when it is that instruction's word (30_encoding.md R104, R105, R110). -/
def Obligations.WordDecodesToInstrIffItIsItsEncoding : Prop :=
  ∀ (w : Word) (i : Instr), decode w = .cmd i ↔ w = encode i

/-- The rows of the opcode table select the commands: the decoded instruction's row is the one the word
matches, a word that matches a row decodes to an instruction of that row, a word that matches no row
decodes to Illegal or Unknown, and rows are disjoint (30_encoding.md R105). -/
def Obligations.RowPatternsSelectCommands : Prop :=
  (∀ w i, decode w = .cmd i → w &&& rowMask i = rowMatch i) ∧
    (∀ w i, w &&& rowMask i = rowMatch i →
      ∃ j, decode w = .cmd j ∧ rowMask j = rowMask i ∧ rowMatch j = rowMatch i) ∧
    (∀ w, (∀ i, w &&& rowMask i ≠ rowMatch i) → decode w = .illegal ∨ decode w = .unknown) ∧
    (∀ w i j, w &&& rowMask i = rowMatch i → w &&& rowMask j = rowMatch j →
      rowMatch i = rowMatch j)

/-- The decoder accepts exactly the words whose fields pass the checks of 30_encoding.md R106. -/
def Obligations.DecoderAcceptsExactlyWellFormedFields : Prop :=
  ∀ w : Word, (∃ i, decode w = .cmd i) ↔ (fieldsOf w).wellFormed = true

/-- Which words are Illegal and which Unknown, with the priority of the two (30_encoding.md R104, R106;
60_exceptions.md R420): `early` are the tests before the cipher id's, `late` those after it. -/
def Obligations.DecodeErrorsByPriority : Prop :=
  ∀ w : Word,
    let op := (w.extractLsb' 0 8).toNat
    let ciph := (w.extractLsb' 8 4).toNat
    let chain := (w.extractLsb' 13 2).toNat
    let early := w.extractLsb' 16 16 ≠ 0 ∨ op = 0 ∨ 8 < op ∨ (op = 8 ∧ w.extractLsb' 8 8 ≠ 0) ∨
      (op ≠ 7 ∧ w.extractLsb' 12 4 ≠ 0)
    let late := (ciph = 4 ∧ (op = 2 ∨ op = 3 ∨ op = 5 ∨ op = 6)) ∨ (op = 4 ∧ ciph < 4) ∨
      (op = 7 ∧ 2 ≤ chain) ∨ (op = 7 ∧ ciph = 4 ∧ (chain ≠ 0 ∨ w.getLsbD 15 = true))
    (decode w = .unknown ↔ ¬early ∧ op ≠ 8 ∧ 5 ≤ ciph) ∧
      (decode w = .illegal ↔ early ∨ (ciph < 5 ∧ late))

/-! ## The step -/

/-- A step runs the decoded instruction, and says whose turn a step is: with a captured word that decodes
to `i`, the engine's turn is `exec i`; a step is the engine's turn when the agenda is empty or gives it
the turn, the serving of an access when the agenda gives it to the host, and a reset when it gives it to
power-on (10_state.md R38; the agenda, and that an empty one gives the engine the turn, are the model's,
log 1). -/
def Obligations.StepRunsTheDecodedCommand : Prop :=
  (∀ s w i, s.pending = some w → decode w = .cmd i → engineTurn s = exec i s) ∧
    (∀ s w i, s.pending = some w → decode w = .cmd i → s.agenda = [] → step s = exec i s) ∧
    (∀ s w i rest, s.pending = some w → decode w = .cmd i → s.agenda = .engine :: rest →
      step s = exec i (s.setAgenda rest)) ∧
    (∀ s, s.agenda = [] → step s = engineTurn s) ∧
    (∀ s rest, s.agenda = .engine :: rest → step s = engineTurn (s.setAgenda rest)) ∧
    (∀ s a rest, s.agenda = .host a :: rest → step s = .next (serve a (s.setAgenda rest))) ∧
    (∀ s rest, s.agenda = .powerOn :: rest → step s = .next (s.setAgenda rest).resetCore)

/-- With no command in flight the engine changes nothing: neither an engine turn nor a step with an empty
agenda does, which is the engine's (60_exceptions.md R445, 70_reset_and_hazards.md R450; the agenda is
the model's, log 1). -/
def Obligations.IdleCoreChangesNothing : Prop :=
  (∀ s, s.pending = none → engineTurn s = .next s) ∧
    (∀ s, s.pending = none → s.agenda = [] → step s = .next s) ∧
    (∀ s rest, s.pending = none → s.agenda = .engine :: rest → step s = .next (s.setAgenda rest))

/-- The engine's turn on an illegal word and on one with an unknown cipher completes with its error and
changes nothing but STATUS and ERRINFO, whatever the agenda is (30_encoding.md R104; 60_exceptions.md
R401, R403, R410). -/
def Obligations.DecodingErrorsChangeOnlyStatus : Prop :=
  ∀ s w, s.pending = some w →
    (decode w = .illegal →
      ∃ t, engineTurn s = .next t ∧ t.endedWith .illegalCommand w 0 ∧ s.onlyStatus t) ∧
    (decode w = .unknown →
      ∃ t, engineTurn s = .next t ∧ t.endedWith .unknownCipher w 0 ∧ s.onlyStatus t)

/-- Every completion, successful or not: the engine's turn answers a next state in which BUSY is 0, DONE
is 1, IRQ is IE, IE and OVR are as before, ERR is a code that is produced, and ERRINFO is 0 when ERR is
(10_state.md R38, R53, R54; 60_exceptions.md R408, R409, R413, R430). -/
def Obligations.EveryCompletionSetsDoneAndFreesTheCore : Prop :=
  ∀ s w, s.pending = some w →
    ∃ t, engineTurn s = .next t ∧ t.busy = false ∧ t.pending = none ∧ t.done = true ∧ t.irq = s.ie ∧
      t.ie = s.ie ∧ t.ovr = s.ovr ∧ t.err ∈ producedCodes ∧ (t.err = 0 → t.errinfo = 0)

/-- A run over any finite agenda comes to its end, one step a turn, and one step later no command is in
flight; and where no turn resets the core, a command in flight completes within that run: at the step
that is its completion it is still the captured one, and DONE is 1 after it (10_state.md R38, D31; the
agenda is the model's, log 1). -/
def Obligations.EveryAgendaRunsOutWithTheCoreIdle : Prop :=
  ∀ s : State,
    (∃ t, runsTo (s.agenda.length + 1) s t ∧ t.agenda = [] ∧ t.busy = false) ∧
    (∀ w, s.pending = some w → (∀ x ∈ s.agenda, x.resets s.params = false) →
      ∃ n u t, n ≤ s.agenda.length ∧ runsTo n s u ∧ u.pending = some w ∧ step u = .next t ∧
        t.pending = none ∧ t.done = true)

/-- The invariant holds after reset. -/
def Obligations.ResetMeetsTheInvariant : Prop := State.reset.Inv

/-- Every step keeps the invariant: the memory stays canonical and inside the core byte space, ERR stays
a produced code, a busy core has DONE = 0 and ERR = 0, ERRINFO's reserved bits stay 0, OUTLEN stays
within BUF_BYTES, and the schedule store keeps the shape of its cipher (the ARC4 table a permutation,
IDEA's DK derived from its Z). -/
def Obligations.StepKeepsTheInvariant : Prop :=
  ∀ s t : State, s.Inv → step s = .next t → t.Inv

/-! ## The bus -/

/-- Acceptance (10_state.md R37): a write of CMD while idle captures the word, whatever its bits are,
and changes nothing else. -/
def Obligations.CmdWriteWhileIdleIsAccepted : Prop :=
  ∀ s v rest, s.agenda = writeAt s.params 0x00C v :: rest → s.busy = false →
    ∃ t, step s = .next t ∧ t.pending = some v ∧ t.busy = true ∧ t.done = false ∧ t.err = 0 ∧
      t.params = s.params ∧ t.ie = s.ie ∧ t.ovr = s.ovr ∧ t.msglen = s.msglen ∧
      t.errinfo = s.errinfo ∧ s.sameResults t ∧ t.mem = s.mem ∧ t.agenda = rest

/-- Writes while busy (10_state.md R39): a write of CMD, KEYLEN, MSGLEN, DATA, IV, KEY or IBUF is dropped
and sets OVR; a write of CTRL resets the core or sets IE, a write of STATUS clears DONE and OVR, as when
idle; a write of any other offset is ignored and does not set OVR. -/
def Obligations.WritesWhileBusy : Prop :=
  ∀ s off v rest, s.agenda = writeAt s.params off v :: rest → s.busy = true → off % 4 = 0 →
    off < 0x30000 →
    ∃ t, step s = .next t ∧ t.agenda = rest ∧
      ((off = 0x00C ∨ off = 0x010 ∨ off = 0x014 ∨ hostBytes s.params off) →
        s.dropWrite.coreSame t) ∧
      (off = 0x004 → v.getLsbD 1 = true → s.coreReset t) ∧
      (off = 0x004 → v.getLsbD 1 = false → ({ s with ie := v.getLsbD 0 } : State).coreSame t) ∧
      (off = 0x008 → ({ s with
        done := s.done && !v.getLsbD 1, ovr := s.ovr && !v.getLsbD 2 } : State).coreSame t) ∧
      (¬(off = 0x00C ∨ off = 0x010 ∨ off = 0x014 ∨ hostBytes s.params off ∨ off = 0x004 ∨
        off = 0x008) → s.coreSame t)

/-- What a read returns, and that it has no side effect on the core (20_memory.md R74, R75, R76;
10_state.md R32 to R36, R40 to R43): each register at its offset, the byte regions little-endian,
reserved offsets 0. OUTLEN, ERRINFO, KSBYTE and OBUF return their values while idle; while busy nothing
is said of them. -/
def Obligations.ReadsReturnTheRegistersWithoutSideEffect : Prop :=
  ∀ s off rest, s.agenda = readAt s.params off :: rest → s.params.wellFormed = true →
    off % 4 = 0 → off < 0x30000 →
    ∃ t v, step s = .next t ∧ s.coreSame t ∧ t.agenda = rest ∧ t.reply = .value v ∧
      (off = 0x000 → v = 0x50594301) ∧
      (off = 0x004 → v.getLsbD 0 = s.ie ∧ v.extractLsb' 1 31 = 0) ∧
      (off = 0x008 → v.getLsbD 0 = s.busy ∧ v.getLsbD 1 = s.done ∧ v.getLsbD 2 = s.ovr ∧
        v.getLsbD 3 = false ∧ v.extractLsb' 4 4 = s.err ∧ v.extractLsb' 8 3 = s.schedTag ∧
        v.getLsbD 11 = s.keyed ∧ v.extractLsb' 12 20 = 0) ∧
      (off = 0x00C → v = 0) ∧
      (off = 0x010 → v.toNat = s.keylen.toNat) ∧
      (off = 0x014 → v.toNat = s.msglen.toNat) ∧
      (off = 0x018 → s.busy = false → v.toNat = s.outlen.toNat) ∧
      (off = 0x01C → s.busy = false → v = s.errinfo) ∧
      (off = 0x020 → s.busy = false → v.toNat = s.ksbyte.toNat) ∧
      ((hostBytes s.params off ∨
          (s.busy = false ∧ 0x20000 ≤ off ∧ off < 0x20000 + s.params.bufBytes)) →
        v.extractLsb' 0 8 = s.mem.read off ∧ v.extractLsb' 8 8 = s.mem.read (off + 1) ∧
          v.extractLsb' 16 8 = s.mem.read (off + 2) ∧ v.extractLsb' 24 8 = s.mem.read (off + 3)) ∧
      (reservedOffset s.params off → v = 0)

/-- A read of OUTLEN, ERRINFO, KSBYTE or OBUF while busy changes nothing of the core and returns a free
value, a fresh draw at each such read (10_state.md R40, U1; that the draw is fresh each time is the
model's choice, log 2). -/
def Obligations.BusyReadsOfResultsAreDraws : Prop :=
  ∀ s off rest, s.agenda = readAt s.params off :: rest → s.params.wellFormed = true →
    s.busy = true → off % 4 = 0 →
    (off = 0x018 ∨ off = 0x01C ∨ off = 0x020 ∨
      (0x20000 ≤ off ∧ off < 0x20000 + s.params.bufBytes)) →
    ∃ t, step s = .next t ∧ s.coreSame t ∧ t.agenda = rest ∧ t.draws = s.draws + 1 ∧
      t.reply = .value (Config.freeRead s.draws)

/-- A write of a byte region while idle (20_memory.md R74, R75, R81): the four bytes at the offset take the
word's bytes, lowest first, a read of the offset then gives the word, every other byte reads as before,
and no register or flag changes. -/
def Obligations.BufferWriteThenReadGivesTheWord : Prop :=
  ∀ s off v rest, s.agenda = writeAt s.params off v :: rest → s.busy = false →
    s.mem.wf = true → off % 4 = 0 → off < 0x30000 → hostBytes s.params off →
    ∃ t, step s = .next t ∧ t.agenda = rest ∧
      t.mem.read off = v.extractLsb' 0 8 ∧ t.mem.read (off + 1) = v.extractLsb' 8 8 ∧
      t.mem.read (off + 2) = v.extractLsb' 16 8 ∧ t.mem.read (off + 3) = v.extractLsb' 24 8 ∧
      t.readWord off = v ∧ s.memSameOutside off 4 t ∧ (s.setMem t.mem).coreSame t

/-- Writes of KEYLEN and MSGLEN while idle keep bits [8:0] and [15:0] and change nothing else (10_state.md
R41, R42). -/
def Obligations.LengthRegisterWrites : Prop :=
  ∀ s v rest, s.busy = false →
    (s.agenda = writeAt s.params 0x010 v :: rest →
      ∃ t, step s = .next t ∧ t.agenda = rest ∧ t.keylen.toNat = v.toNat % 512 ∧
        (s.setKeylen t.keylen).coreSame t) ∧
    (s.agenda = writeAt s.params 0x014 v :: rest →
      ∃ t, step s = .next t ∧ t.agenda = rest ∧ t.msglen.toNat = v.toNat % 65536 ∧
        (s.setMsglen t.msglen).coreSame t)

/-- Writes of ID, OUTLEN, ERRINFO, KSBYTE, OBUF and of reserved offsets change nothing, OVR included,
busy or idle (10_state.md R32, R39, R52; 20_memory.md R76). -/
def Obligations.ReadOnlyAndReservedWritesAreIgnored : Prop :=
  ∀ s off v rest, s.agenda = writeAt s.params off v :: rest → s.params.wellFormed = true →
    off % 4 = 0 → off < 0x30000 →
    (off = 0x000 ∨ off = 0x018 ∨ off = 0x01C ∨ off = 0x020 ∨
      (0x20000 ≤ off ∧ off < 0x20000 + s.params.bufBytes) ∨ reservedOffset s.params off) →
    ∃ t, step s = .next t ∧ t.agenda = rest ∧ s.coreSame t

/-- A write of CTRL with SRST = 0 sets IE to bit 0 and changes nothing else; a write of STATUS clears DONE
if bit 1 is 1 and OVR if bit 2 is 1 and changes nothing else, so that acknowledging DONE deasserts IRQ.
Both take effect busy or idle (10_state.md R33, R34, R54; 60_exceptions.md R432). -/
def Obligations.ControlAndStatusWrites : Prop :=
  ∀ s v rest,
    (s.agenda = writeAt s.params 0x004 v :: rest → v.getLsbD 1 = false →
      ∃ t, step s = .next t ∧ t.agenda = rest ∧ t.irq = (v.getLsbD 0 && s.done) ∧
        ({ s with ie := v.getLsbD 0 } : State).coreSame t) ∧
    (s.agenda = writeAt s.params 0x008 v :: rest →
      ∃ t, step s = .next t ∧ t.agenda = rest ∧ (v.getLsbD 1 = true → t.irq = false) ∧
        ({ s with done := s.done && !v.getLsbD 1, ovr := s.ovr && !v.getLsbD 2 } : State).coreSame t)

/-- Soft reset (70_reset_and_hazards.md R451, R452): a write of CTRL with SRST = 1 resets the core in the
step of that write, whether or not a command is in flight; the command in flight is abandoned and IE is
0 whatever bit 0 of the write is. -/
def Obligations.SoftResetAbandonsTheCommand : Prop :=
  ∀ s v rest, s.agenda = writeAt s.params 0x004 v :: rest → v.getLsbD 1 = true →
    ∃ t, step s = .next t ∧ s.coreReset t ∧ t.agenda = rest ∧ t.reply = .written

/-- Power-on reset puts every piece of the core's state into its reset value, and `State.reset` has those
values (70_reset_and_hazards.md R450, R452). -/
def Obligations.PowerOnResetGivesResetValues : Prop :=
  (∀ s rest, s.agenda = .powerOn :: rest →
    ∃ t, step s = .next t ∧ s.coreReset t ∧ t.agenda = rest) ∧
    State.reset.coreReset State.reset ∧ State.reset.statusWord = 0 ∧ State.reset.ctrlWord = 0

/-- An access that is not 32 bits wide, at an offset that is not a multiple of 4, or outside the window of
0x30000 bytes from BASE gets a bus error response and changes nothing of the core (20_memory.md R70, R73,
U6; that an address below BASE is answered like one above the window is the model's choice, log 5). -/
def Obligations.BadAccessesAreNotPerformed : Prop :=
  ∀ s a rest, s.agenda = .host a :: rest →
    (a.width ≠ 32 ∨ a.addr < s.params.base ∨ s.params.base + 0x30000 ≤ a.addr ∨
      (a.addr - s.params.base) % 4 ≠ 0) →
    ∃ t, step s = .next t ∧ s.coreSame t ∧ t.agenda = rest ∧ t.reply = .busError ∧
      t.draws = s.draws

/-! ## EXPAND -/

/-- The block sizes, the key-length sets and the packing of bytes into words (00_scope.md R6, R7, R10);
that a string reads 0x00 past its end is the model's choice (log 14). -/
def Obligations.BlockSizesAndKeyLengthSets : Prop :=
  blockSize .aes = 16 ∧ blockSize .rc6 = 16 ∧ blockSize .bf = 8 ∧ blockSize .idea = 8 ∧
    (∀ n, (keyLengthOk .aes n = true ↔ n = 16 ∨ n = 24 ∨ n = 32) ∧
      (keyLengthOk .rc6 n = true ↔ n = 16 ∨ n = 24 ∨ n = 32) ∧
      (keyLengthOk .bf n = true ↔ 4 ≤ n ∧ n ≤ 56) ∧ (keyLengthOk .idea n = true ↔ n = 16) ∧
      (keyLengthOk .arc4 n = true ↔ 1 ≤ n ∧ n ≤ 256)) ∧
    (∀ (b : Bytes) (i : Nat),
      let v (j : Nat) : Nat := (b.getD (i + j) 0).toNat
      (be16 b i).toNat = v 0 * 2 ^ 8 + v 1 ∧
      (be32 b i).toNat = v 0 * 2 ^ 24 + v 1 * 2 ^ 16 + v 2 * 2 ^ 8 + v 3 ∧
      (le32 b i).toNat = v 0 + v 1 * 2 ^ 8 + v 2 * 2 ^ 16 + v 3 * 2 ^ 24) ∧
    (∀ x : Half, (be16Bytes x).length = 2 ∧ be16 (be16Bytes x) 0 = x) ∧
    ∀ x : Word, (be32Bytes x).length = 4 ∧ be32 (be32Bytes x) 0 = x ∧ (le32Bytes x).length = 4 ∧
      le32 (le32Bytes x) 0 = x

/-- EXPAND AES, RC6, BF, IDEA and ARC4 (`expandInstr c`; 41_key_schedule.md R150): with a key length the
cipher supports the command succeeds, the store holds the schedule of KEY[0..KEYLEN), KEYED is 1 and
SCHED is the cipher's id; with any other key length it ends with `InvalidKeyLength`, LEN = KEYLEN, and
the old schedule is discarded. Nothing else changes. -/
def Obligations.ExpandBuildsTheScheduleOrDiscardsTheOld : Prop :=
  ∀ (c : Cipher) (s : State),
    (keyLengthOk c s.keylen.toNat = true →
      ∃ t, exec (expandInstr c) s = .next t ∧ t.endedWell ∧
        t.sched = some (expandKey c (s.mem.readBytes keyBase s.keylen.toNat)) ∧ t.keyed = true ∧
        t.schedTag.toNat = c.id.toNat ∧ s.sameOutsideCommand t ∧ t.keylen = s.keylen ∧
        t.outlen = s.outlen ∧ t.ksbyte = s.ksbyte ∧ s.memSame t) ∧
    (∀ w, s.pending = some w → keyLengthOk c s.keylen.toNat = false →
      ∃ t, exec (expandInstr c) s = .next t ∧
        t.endedWith .invalidKeyLength w (BitVec.ofNat 16 s.keylen.toNat) ∧ t.sched = none ∧
        t.keyed = false ∧ t.schedTag = 0 ∧ s.sameOutsideCommand t ∧ t.keylen = s.keylen ∧
        t.outlen = s.outlen ∧ t.ksbyte = s.ksbyte ∧ s.memSame t)

/-- Determinism of EXPAND (41_key_schedule.md R151): two states with the same KEYLEN and the same bytes
KEY[0..KEYLEN) end with the same content of the store, whatever else differs. -/
def Obligations.ExpandDependsOnTheKeyBytesAlone : Prop :=
  ∀ (c : Cipher) (s s' t t' : State), s'.keylen = s.keylen →
    (∀ k, k < s.keylen.toNat → s'.mem.read (keyBase + k) = s.mem.read (keyBase + k)) →
    exec (expandInstr c) s = .next t → exec (expandInstr c) s' = .next t' → t'.sched = t.sched

/-- The expansions give schedules of the shape 10_state.md R44 states, for every key length of the cipher
(43_aes.md R185, 44_rc6.md R222, 45_blowfish.md R252, 46_idea.md R283, 47_arc4.md R310). -/
def Obligations.ExpandedSchedulesHaveTheirShape : Prop :=
  ∀ (c : Cipher) (k : Bytes), keyLengthOk c k.length = true → (expandKey c k).shapeOk

/-- The words of `aes_expand(K)` (43_aes.md R185): Nk words of the key, then each word from the one
before it and the one Nk before it. -/
def aesExpansionRule (k : Bytes) : Prop :=
  let nk := k.length / 4
  ∃ w, expandKey .aes k = .block (.aes (nk + 6) w) ∧ w.length = 4 * (nk + 7) ∧
    (∀ i, i < nk → w.getD i Quad.zero =
      ⟨byteAt k (4 * i), byteAt k (4 * i + 1), byteAt k (4 * i + 2), byteAt k (4 * i + 3)⟩) ∧
    ∀ i, nk ≤ i → i < w.length →
      let p := w.getD (i - 1) Quad.zero
      w.getD i Quad.zero = (w.getD (i - nk) Quad.zero).xor
        (if i % nk = 0 then
          ⟨sbox p.b1 ^^^ xtime^[i / nk - 1] 0x01, sbox p.b2, sbox p.b3, sbox p.b0⟩
        else if nk = 8 ∧ i % nk = 4 then ⟨sbox p.b0, sbox p.b1, sbox p.b2, sbox p.b3⟩
        else p)

/-- The 132 turns of the mixing loop of `rc6_expand(K)` (44_rc6.md R222): `s n`, `l n`, `a n` and `b n` are
S, L, A and B after n turns. -/
def rc6ExpansionRule (k : Bytes) : Prop :=
  let c := k.length / 4
  ∃ (s l : Nat → List Word) (a b : Nat → Word),
    expandKey .rc6 k = .block (.rc6 (s 132)) ∧ (s 0).length = 44 ∧
    (s 0).getD 0 0 = 0xB7E15163 ∧
    (∀ i, i < 43 → (s 0).getD (i + 1) 0 = (s 0).getD i 0 + 0x9E3779B9) ∧
    l 0 = (List.range c).map (fun n => le32 k (4 * n)) ∧ a 0 = 0 ∧ b 0 = 0 ∧
    ∀ n, n < 132 →
      a (n + 1) = ((s n).getD (n % 44) 0 + a n + b n).rotateLeft 3 ∧
      b (n + 1) = ((l n).getD (n % c) 0 + a (n + 1) + b n).rotateLeft
        ((a (n + 1) + b n).toNat % 32) ∧
      s (n + 1) = (s n).set (n % 44) (a (n + 1)) ∧ l (n + 1) = (l n).set (n % c) (b (n + 1))

/-- The 1042 words of a Blowfish schedule in the order of their replacement (45_blowfish.md R256). -/
def bfFlat (t : BfTables) : List Word := t.p ++ t.s0 ++ t.s1 ++ t.s2 ++ t.s3

/-- The 521 encipherings of `bf_expand(K)` (45_blowfish.md R256): `t n` and `x n` are the tables and the
chaining value after n of them; the key, cycled, is on P before the first. -/
def bfExpansionRule (k : Bytes) : Prop :=
  let b (j : Nat) : Byte := byteAt k (j % k.length)
  ∃ (t : Nat → BfTables) (x : Nat → Word × Word),
    expandKey .bf k = .block (.bf (t 521)) ∧ x 0 = (0, 0) ∧ (t 0).p.length = 18 ∧
    (∀ i, i < 18 → (t 0).p.getD i 0 = bfInit.p.getD i 0 ^^^
      (b (4 * i) ++ b (4 * i + 1) ++ b (4 * i + 2) ++ b (4 * i + 3))) ∧
    (t 0).s0 = bfInit.s0 ∧ (t 0).s1 = bfInit.s1 ∧ (t 0).s2 = bfInit.s2 ∧ (t 0).s3 = bfInit.s3 ∧
    ∀ n, n < 521 →
      x (n + 1) = bfEncipher (t n) (x n) ∧
      (BlockSchedule.bf (t (n + 1))).shapeOk ∧
      bfFlat (t (n + 1)) =
        ((bfFlat (t n)).set (2 * n) (x (n + 1)).1).set (2 * n + 1) (x (n + 1)).2

/-- The subkeys of `idea_expand(K)` by their numbers (46_idea.md R282 to R285): Z[n] is 16 bits of the key
number rotated by 25 for every 8 words before it, and DK is R284's rearrangement of Z. -/
def ideaExpansionRule (k : Bytes) : Prop :=
  let key : BitVec 128 := BitVec.ofNat 128
    ((List.range 16).map fun m => (byteAt k m).toNat * 2 ^ (8 * (15 - m))).sum
  ∃ z dk, expandKey .idea k = .block (.idea z dk) ∧ z.length = 52 ∧ dk.length = 52 ∧
    (∀ n, 1 ≤ n → n ≤ 52 → keyAt z n =
      (key.rotateLeft (25 * ((n - 1) / 8))).extractLsb' (112 - 16 * ((n - 1) % 8)) 16) ∧
    ∀ r, 1 ≤ r → r ≤ 9 →
      let e := 6 * (9 - r)
      let ends := r = 1 ∨ r = 9
      keyAt dk (6 * r - 5) = ideaInv (keyAt z (e + 1)) ∧
      keyAt dk (6 * r - 4) = 0 - (if ends then keyAt z (e + 2) else keyAt z (e + 3)) ∧
      keyAt dk (6 * r - 3) = 0 - (if ends then keyAt z (e + 3) else keyAt z (e + 2)) ∧
      keyAt dk (6 * r - 2) = ideaInv (keyAt z (e + 4)) ∧
      (r ≤ 8 → keyAt dk (6 * r - 1) = keyAt z (6 * (8 - r) + 5) ∧
        keyAt dk (6 * r) = keyAt z (6 * (8 - r) + 6))

/-- The 256 turns of `arc4_ksa(K)` (47_arc4.md R311): `s n` and `j n` are S and j after n turns. -/
def arc4ExpansionRule (k : Bytes) : Prop :=
  ∃ (s : Nat → List Byte) (j : Nat → Byte),
    expandKey .arc4 k = .arc4 ⟨s 256, 0, 0⟩ ∧ j 0 = 0 ∧
    (∀ x : Byte, arc4At (s 0) x = x) ∧ (∀ n, n ≤ 256 → (s n).length = 256) ∧
    ∀ n, n < 256 →
      let i := BitVec.ofNat 8 n
      j (n + 1) = j n + arc4At (s n) i + byteAt k (n % k.length) ∧
      arc4At (s (n + 1)) i = arc4At (s n) (j (n + 1)) ∧
      arc4At (s (n + 1)) (j (n + 1)) = arc4At (s n) i ∧
      ∀ x : Byte, x ≠ i → x ≠ j (n + 1) → arc4At (s (n + 1)) x = arc4At (s n) x

/-- What the key expansions compute, for every key of a length the cipher supports: the content of the
tables of AES, RC6, Blowfish, IDEA and ARC4, each by its rule (43_aes.md R185, 44_rc6.md R222,
45_blowfish.md R256, 46_idea.md R283 to R285, 47_arc4.md R311). -/
def Obligations.ExpansionsComputeTheirTables : Prop :=
  (∀ k : Bytes, keyLengthOk .aes k.length = true → aesExpansionRule k) ∧
    (∀ k : Bytes, keyLengthOk .rc6 k.length = true → rc6ExpansionRule k) ∧
    (∀ k : Bytes, keyLengthOk .bf k.length = true → bfExpansionRule k) ∧
    (∀ k : Bytes, keyLengthOk .idea k.length = true → ideaExpansionRule k) ∧
    ∀ k : Bytes, keyLengthOk .arc4 k.length = true → arc4ExpansionRule k

/-- Blowfish and ARC4 use the key cyclically: a key and the same key written twice give the same schedule
(45_blowfish.md R256, 47_arc4.md R311). -/
def Obligations.CyclicKeysGiveTheSameSchedule : Prop :=
  ∀ k : Bytes, bfExpand (k ++ k) = bfExpand k ∧ arc4Ksa (k ++ k) = arc4Ksa k

/-! ## ENCB, DECB and KSNEXT -/

/-- ENCB AES and DECB AES under an AES schedule: DATA[0..16) takes the (de)ciphered block, every other
byte, the store, and every other register are unchanged (43_aes.md R196, R197). -/
def Obligations.AesBlockCommands : Prop :=
  ∀ s nr w, s.sched = some (.block (.aes nr w)) → s.mem.wf = true →
    (∃ t, exec .encbAes s = .next t ∧ t.endedWell ∧
      t.mem.readBytes dataBase 16 = aesEncrypt nr w (s.mem.readBytes dataBase 16) ∧
      s.memSameOutside dataBase 16 t ∧ s.sameOutsideCommand t ∧ s.sameResults t) ∧
    (∃ t, exec .decbAes s = .next t ∧ t.endedWell ∧
      t.mem.readBytes dataBase 16 = aesDecrypt nr w (s.mem.readBytes dataBase 16) ∧
      s.memSameOutside dataBase 16 t ∧ s.sameOutsideCommand t ∧ s.sameResults t)

/-- ENCB RC6 and DECB RC6 under an RC6 schedule (44_rc6.md R227, R228). -/
def Obligations.Rc6BlockCommands : Prop :=
  ∀ s k, s.sched = some (.block (.rc6 k)) → s.mem.wf = true →
    (∃ t, exec .encbRc6 s = .next t ∧ t.endedWell ∧
      t.mem.readBytes dataBase 16 = rc6Encrypt k (s.mem.readBytes dataBase 16) ∧
      s.memSameOutside dataBase 16 t ∧ s.sameOutsideCommand t ∧ s.sameResults t) ∧
    (∃ t, exec .decbRc6 s = .next t ∧ t.endedWell ∧
      t.mem.readBytes dataBase 16 = rc6Decrypt k (s.mem.readBytes dataBase 16) ∧
      s.memSameOutside dataBase 16 t ∧ s.sameOutsideCommand t ∧ s.sameResults t)

/-- ENCB BF and DECB BF under a Blowfish schedule: DATA[0..8) takes the block and DATA[8..16) is unchanged
(45_blowfish.md R258, R259; 10_state.md R48). -/
def Obligations.BlowfishBlockCommands : Prop :=
  ∀ s k, s.sched = some (.block (.bf k)) → s.mem.wf = true →
    (∃ t, exec .encbBf s = .next t ∧ t.endedWell ∧
      t.mem.readBytes dataBase 8 = bfEncrypt k (s.mem.readBytes dataBase 8) ∧
      s.memSameOutside dataBase 8 t ∧ s.sameOutsideCommand t ∧ s.sameResults t) ∧
    (∃ t, exec .decbBf s = .next t ∧ t.endedWell ∧
      t.mem.readBytes dataBase 8 = bfDecrypt k (s.mem.readBytes dataBase 8) ∧
      s.memSameOutside dataBase 8 t ∧ s.sameOutsideCommand t ∧ s.sameResults t)

/-- ENCB IDEA and DECB IDEA under an IDEA schedule: the same data path with Z or DK; DATA[8..16) is
unchanged (46_idea.md R289, R290). -/
def Obligations.IdeaBlockCommands : Prop :=
  ∀ s z dk, s.sched = some (.block (.idea z dk)) → s.mem.wf = true →
    (∃ t, exec .encbIdea s = .next t ∧ t.endedWell ∧
      t.mem.readBytes dataBase 8 = ideaCrypt z (s.mem.readBytes dataBase 8) ∧
      s.memSameOutside dataBase 8 t ∧ s.sameOutsideCommand t ∧ s.sameResults t) ∧
    (∃ t, exec .decbIdea s = .next t ∧ t.endedWell ∧
      t.mem.readBytes dataBase 8 = ideaCrypt dk (s.mem.readBytes dataBase 8) ∧
      s.memSameOutside dataBase 8 t ∧ s.sameOutsideCommand t ∧ s.sameResults t)

/-- `NotKeyed` (60_exceptions.md R406): ENCB c or DECB c when the store does not hold a schedule of c, or
KSNEXT when it does not hold an ARC4 state, changes nothing but STATUS and ERRINFO. -/
def Obligations.NotKeyedChangesOnlyStatus : Prop :=
  ∀ p ∈ [(Instr.encbAes, (0 : BitVec 3)), (.decbAes, 0), (.encbRc6, 1), (.decbRc6, 1), (.encbBf, 2),
      (.decbBf, 2), (.encbIdea, 3), (.decbIdea, 3), (.ksnext, 4)],
    ∀ s w, s.pending = some w → (∀ k, s.sched = some k → k.tag ≠ p.2) →
      ∃ t, exec p.1 s = .next t ∧ t.endedWith .notKeyed w 0 ∧ s.onlyStatus t

/-- KSNEXT (47_arc4.md R313), with the rule written out: the two indices advance, the two entries are
exchanged, every other entry stays, KSBYTE is the entry at the sum of the two, and nothing else
changes. -/
def Obligations.KsnextTakesOneKeystreamStep : Prop :=
  ∀ s st, s.sched = some (.arc4 st) → st.s.length = 256 →
    ∃ t u, exec .ksnext s = .next t ∧ t.endedWell ∧ t.sched = some (.arc4 u) ∧
      u.s.length = 256 ∧ u.i = st.i + 1 ∧ u.j = st.j + arc4At st.s u.i ∧
      arc4At u.s u.i = arc4At st.s u.j ∧ arc4At u.s u.j = arc4At st.s u.i ∧
      (∀ x : Byte, x ≠ u.i → x ≠ u.j → arc4At u.s x = arc4At st.s x) ∧
      t.ksbyte = arc4At u.s (arc4At u.s u.i + arc4At u.s u.j) ∧
      s.sameOutsideCommand t ∧ t.keylen = s.keylen ∧ t.outlen = s.outlen ∧ s.memSame t

/-! ## PAD and UNPAD -/

/-- PAD c of a message that fits, with the rule written out (40_block_utils.md R130, R133): OBUF holds the
message and then p bytes p, OUTLEN is the new length, every other byte and register is unchanged. -/
def Obligations.PadAppendsThePaddingBytes : Prop :=
  ∀ (c : BlockCipher) (s : State), s.params.wellFormed = true → s.mem.wf = true →
    s.msglen.toNat < s.params.bufBytes →
    let n := s.msglen.toNat
    let p := blockSize c - n % blockSize c
    ∃ t, exec (.pad c) s = .next t ∧ t.endedWell ∧ t.outlen.toNat = n + p ∧
      (∀ k, k < n → t.mem.read (obufBase + k) = s.mem.read (ibufBase + k)) ∧
      (∀ k, n ≤ k → k < n + p → (t.mem.read (obufBase + k)).toNat = p) ∧
      s.memSameOutside obufBase (n + p) t ∧ s.sameOutsideCommand t ∧ t.keylen = s.keylen ∧
      t.ksbyte = s.ksbyte ∧ t.sched = s.sched

/-- The n bytes `f 0`, `f 1`, .. end in p bytes p with 1 <= p <= bs, and n > 0 is a multiple of bs: valid
padding (40_block_utils.md R131). -/
def endsInPadding (bs : Nat) (f : Nat → Byte) (n p : Nat) : Prop :=
  n % bs = 0 ∧ 1 ≤ p ∧ p ≤ bs ∧ p ≤ n ∧ ∀ k, n - p ≤ k → k < n → (f k).toNat = p

/-- The message in IBUF, of length n, is validly padded (40_block_utils.md R131, R134). -/
def paddedMessage (c : BlockCipher) (s : State) (n p : Nat) : Prop :=
  endsInPadding (blockSize c) (fun k => s.mem.read (ibufBase + k)) n p

/-- UNPAD c of a validly padded message (40_block_utils.md R131, R134): OBUF holds the message without its
padding, OUTLEN its length, every other byte and register is unchanged. -/
def Obligations.UnpadStripsThePadding : Prop :=
  ∀ (c : BlockCipher) (s : State) (p : Nat), s.params.wellFormed = true → s.mem.wf = true →
    s.msglen.toNat < s.params.bufBytes → paddedMessage c s s.msglen.toNat p →
    ∃ t, exec (.unpad c) s = .next t ∧ t.endedWell ∧ t.outlen.toNat = s.msglen.toNat - p ∧
      (∀ k, k < s.msglen.toNat - p → t.mem.read (obufBase + k) = s.mem.read (ibufBase + k)) ∧
      s.memSameOutside obufBase (s.msglen.toNat - p) t ∧ s.sameOutsideCommand t ∧
      t.keylen = s.keylen ∧ t.ksbyte = s.ksbyte ∧ t.sched = s.sched

/-- UNPAD c of a message that fits and is not validly padded: `PaddingError` with LEN = MSGLEN, OBUF all
zero, OUTLEN 0, nothing else changed (40_block_utils.md R131, R134; 60_exceptions.md R404, R410). -/
def Obligations.UnpadRejectsMalformedPadding : Prop :=
  ∀ (c : BlockCipher) (s : State) (w : Word), s.pending = some w →
    s.msglen.toNat < s.params.bufBytes → (∀ p, ¬paddedMessage c s s.msglen.toNat p) →
    ∃ t, exec (.unpad c) s = .next t ∧ t.endedWith .paddingError w s.msglen ∧ t.noOutput ∧
      s.memSameOutside obufBase s.params.bufBytes t ∧ s.sameOutsideCommand t ∧
      t.keylen = s.keylen ∧ t.ksbyte = s.ksbyte ∧ t.sched = s.sched

/-- `LengthError` (60_exceptions.md R407, R410, R420): PAD, UNPAD and both forms of RUN with MSGLEN >=
BUF_BYTES, whatever other fault there is: OBUF all zero, OUTLEN 0, the store kept by PAD and UNPAD and
None after RUN, nothing else changed. -/
def Obligations.TooLongAMessageIsALengthError : Prop :=
  ∀ (s : State) (w : Word), s.pending = some w → s.params.bufBytes ≤ s.msglen.toNat →
    (∀ i, (∃ c, i = .pad c ∨ i = .unpad c) →
      ∃ t, exec i s = .next t ∧ t.endedWith .lengthError w s.msglen ∧ t.noOutput ∧
        s.memSameOutside obufBase s.params.bufBytes t ∧ s.sameOutsideCommand t ∧
        t.keylen = s.keylen ∧ t.ksbyte = s.ksbyte ∧ t.sched = s.sched) ∧
    (∀ i, ((∃ c d m iv, i = .run c d m iv) ∨ ∃ d, i = .runArc4 d) →
      ∃ t, exec i s = .next t ∧ t.endedWith .lengthError w s.msglen ∧ t.noOutput ∧
        s.memSameOutside obufBase s.params.bufBytes t ∧ s.sameOutsideCommand t ∧
        t.keylen = s.keylen ∧ t.ksbyte = s.ksbyte ∧ t.sched = none)

/-- `unpad(pad(D, bs), bs) = D` for every D and every block size (40_block_utils.md R131, R135). -/
def Obligations.UnpadInvertsPad : Prop :=
  ∀ (c : BlockCipher) (d : Bytes), unpad (blockSize c) (pad (blockSize c) d) = some d

/-! ## RUN -/

/-- E_k and D_k of a schedule (48_pipeline.md, head): the functions that ENCB and DECB apply to DATA under
it, as AesBlockCommands, Rc6BlockCommands, BlowfishBlockCommands and IdeaBlockCommands state them; an ARC4
state has none. -/
def blockFunctions : Schedule → (Bytes → Bytes) × (Bytes → Bytes)
  | .block (.aes nr w) => (aesEncrypt nr w, aesDecrypt nr w)
  | .block (.rc6 k) => (rc6Encrypt k, rc6Decrypt k)
  | .block (.bf t) => (bfEncrypt t, bfDecrypt t)
  | .block (.idea z dk) => (ideaCrypt z, ideaCrypt dk)
  | .arc4 _ => (id, id)

/-- Byte j of what chaining combines with block t (48_pipeline.md R333): nothing under ECB; under CBC the
ciphertext block before it, and the IV before block 0. -/
def chained (m : Chain) (bs : Nat) (iv y : Nat → Byte) (t j : Nat) : Byte :=
  match m with
  | .ecb => 0
  | .cbc => if t = 0 then iv j else y ((t - 1) * bs + j)

/-- `y` is the ciphertext of the n bytes of `x` (48_pipeline.md R331, R333; 40_block_utils.md R130, R132):
`x` is followed by p bytes p up to a whole block, and block t of `y` is `e` of block t of that, each byte
combined with the chaining's. -/
def encryptsTo (e : Bytes → Bytes) (m : Chain) (bs : Nat) (iv x : Nat → Byte) (n : Nat)
    (y : Nat → Byte) : Prop :=
  let p := bs - n % bs
  let padded (j : Nat) : Byte := if j < n then x j else BitVec.ofNat 8 p
  ∀ t, t < (n + p) / bs →
    (List.range bs).map (fun j => y (t * bs + j)) =
      e ((List.range bs).map fun j => padded (t * bs + j) ^^^ chained m bs iv y t j)

/-- `z` is the n bytes of `y` deciphered, the padding still on it (48_pipeline.md R332, R333;
40_block_utils.md R132): `d` of block t of `y` is block t of `z`, each byte combined with the chaining's. -/
def decryptsTo (d : Bytes → Bytes) (m : Chain) (bs : Nat) (iv y : Nat → Byte) (n : Nat)
    (z : Nat → Byte) : Prop :=
  ∀ t, t < n / bs →
    (List.range bs).map (fun j => z (t * bs + j) ^^^ chained m bs iv y t j) =
      d ((List.range bs).map fun j => y (t * bs + j))

/-- A RUN that succeeds with `len` bytes of output (48_pipeline.md R330, R334): OUTLEN is `len`, the store
is None, every byte outside OBUF[0..len) and every other register is unchanged. -/
def runSucceeds (s t : State) (len : Nat) : Prop :=
  t.endedWell ∧ t.outlen.toNat = len ∧ len ≤ s.params.bufBytes ∧ s.memSameOutside obufBase len t ∧
    t.sched = none ∧ s.sameOutsideCommand t ∧ t.keylen = s.keylen ∧ t.ksbyte = s.ksbyte

/-- The chaining equations of RUN by block number (48_pipeline.md R333): under ECB each block is transformed
by itself; under CBC block t is combined with the ciphertext block before it, and block 0 with the IV; and
the block functions are those of ENCB and DECB. -/
def Obligations.ChainingEquations : Prop :=
  (∀ k b, encryptBlock k b = (blockFunctions (.block k)).1 b ∧
    decryptBlock k b = (blockFunctions (.block k)).2 b) ∧
  ∀ (m : Chain) (k : BlockSchedule) (iv : Bytes) (bs : List Bytes),
    let prev (c : List Bytes) (t : Nat) : Bytes := if t = 0 then iv else c.getD (t - 1) []
    (chainEncrypt m k iv bs).length = bs.length ∧ (chainDecrypt m k iv bs).length = bs.length ∧
      ∀ t, t < bs.length →
        (chainEncrypt m k iv bs).getD t [] =
          (match m with
            | .ecb => encryptBlock k (bs.getD t [])
            | .cbc =>
              encryptBlock k (xorBytes (bs.getD t []) (prev (chainEncrypt m k iv bs) t))) ∧
        (chainDecrypt m k iv bs).getD t [] =
          (match m with
            | .ecb => decryptBlock k (bs.getD t [])
            | .cbc => xorBytes (decryptBlock k (bs.getD t [])) (prev bs t))

/-- RUN c, d, m [, IV] that raises no error (48_pipeline.md R330 to R334): every cipher, both directions,
both chainings, the IV flag given or (under ECB) not. Encryption leaves in OBUF the padded message, block
by block through ENCB's function and the chaining; decryption leaves the message deciphered through
DECB's function and stripped of its padding. OUTLEN is the output's length, the store is None, every byte
outside OBUF[0..OUTLEN) and every other register is unchanged. -/
def Obligations.RunTransformsTheMessage : Prop :=
  ∀ (c : BlockCipher) (m : Chain) (iv : Bool) (s : State),
    s.params.wellFormed = true → s.mem.wf = true → s.msglen.toNat < s.params.bufBytes →
    (m = .cbc → iv = true) → keyLengthOk c.cipher s.keylen.toNat = true →
    let key := s.mem.readBytes keyBase s.keylen.toNat
    let k := blockFunctions (expandKey c.cipher key)
    let bs := blockSize c
    let n := s.msglen.toNat
    let ivOf (j : Nat) : Byte := s.mem.read (ivBase + j)
    let input (j : Nat) : Byte := s.mem.read (ibufBase + j)
    (∃ t, exec (.run c .enc m iv) s = .next t ∧ runSucceeds s t (n + (bs - n % bs)) ∧
      encryptsTo k.1 m bs ivOf input n (fun j => t.mem.read (obufBase + j))) ∧
    (∀ z p, decryptsTo k.2 m bs ivOf input n z → endsInPadding bs z n p →
      ∃ t, exec (.run c .dec m iv) s = .next t ∧ runSucceeds s t (n - p) ∧
        ∀ j, j < n - p → t.mem.read (obufBase + j) = z j) ∧
    ∀ d out, runMessage c d m (expandBlock c key) (s.mem.readBytes ivBase bs)
        (s.mem.readBytes ibufBase n) = some out →
      ∃ t, exec (.run c d m iv) s = .next t ∧ runSucceeds s t out.length ∧
        t.mem.readBytes obufBase out.length = out

/-- The errors of RUN for a message that fits, in their order (48_pipeline.md R330, R332, R335;
60_exceptions.md R402, R404, R405, R420): `MissingIV` for CBC without an IV, then `InvalidKeyLength`,
then on decryption `PaddingError`, where MSGLEN is 0 or no multiple of the block size or the deciphered
message does not end in valid padding. Each leaves OBUF all zero, OUTLEN 0, the store None and everything
else unchanged. -/
def Obligations.RunErrorsInTheirOrder : Prop :=
  ∀ (c : BlockCipher) (d : Dir) (m : Chain) (iv : Bool) (s : State) (w : Word),
    s.pending = some w → s.msglen.toNat < s.params.bufBytes →
    let key := s.mem.readBytes keyBase s.keylen.toNat
    let bs := blockSize c
    let n := s.msglen.toNat
    ∀ (e : CmdError) (len : Half),
      (if m = .cbc ∧ iv = false then e = .missingIV ∧ len = 0
        else if keyLengthOk c.cipher s.keylen.toNat = false then
          e = .invalidKeyLength ∧ len.toNat = s.keylen.toNat
        else d = .dec ∧ e = .paddingError ∧ len = s.msglen ∧
          (n = 0 ∨ n % bs ≠ 0 ∨
            (∃ z, decryptsTo (blockFunctions (expandKey c.cipher key)).2 m bs
              (fun j => s.mem.read (ivBase + j)) (fun j => s.mem.read (ibufBase + j)) n z ∧
              ∀ p, ¬endsInPadding bs z n p) ∨
            runDecrypt c m (expandBlock c key) (s.mem.readBytes ivBase bs)
              (s.mem.readBytes ibufBase n) = none)) →
      ∃ t, exec (.run c d m iv) s = .next t ∧ t.endedWith e w len ∧ t.noOutput ∧ t.sched = none ∧
        s.memSameOutside obufBase s.params.bufBytes t ∧ s.sameOutsideCommand t ∧
        t.keylen = s.keylen ∧ t.ksbyte = s.ksbyte

/-- `t` follows from `s` by `n` KSNEXT commands (47_arc4.md R313). -/
def ksnexts : Nat → State → State → Prop
  | 0, s, t => t = s
  | n + 1, s, t => ∃ u, ksnexts n s u ∧ exec .ksnext u = .next t

/-- RUN ARC4 (48_pipeline.md R336): both directions give the message exclusive-or the keystream of the key,
OUTLEN is MSGLEN, the store is None, KSBYTE is unchanged, and output byte m is IBUF[m] exclusive-or the
KSBYTE of the (m+1)-th KSNEXT from the key's fresh ARC4 state (47_arc4.md R314); a key length outside
1..256 is `InvalidKeyLength`. -/
def Obligations.RunArc4XorsTheKeystream : Prop :=
  ∀ (d : Dir) (s : State), s.params.wellFormed = true → s.mem.wf = true →
    s.msglen.toNat < s.params.bufBytes →
    (1 ≤ s.keylen.toNat → s.keylen.toNat ≤ 256 →
      ∃ t, exec (.runArc4 d) s = .next t ∧ t.endedWell ∧ t.outlen = s.msglen ∧
        t.mem.readBytes obufBase s.msglen.toNat =
          arc4Crypt (s.mem.readBytes keyBase s.keylen.toNat)
            (s.mem.readBytes ibufBase s.msglen.toNat) ∧
        (∀ m u, m < s.msglen.toNat →
          u.sched = some (.arc4 (arc4Ksa (s.mem.readBytes keyBase s.keylen.toNat))) →
          ∃ v, ksnexts (m + 1) u v ∧
            t.mem.read (obufBase + m) = s.mem.read (ibufBase + m) ^^^ v.ksbyte) ∧
        s.memSameOutside obufBase s.msglen.toNat t ∧ t.sched = none ∧ s.sameOutsideCommand t ∧
        t.keylen = s.keylen ∧ t.ksbyte = s.ksbyte) ∧
    (∀ w, s.pending = some w → (s.keylen.toNat = 0 ∨ 256 < s.keylen.toNat) →
      ∃ t, exec (.runArc4 d) s = .next t ∧
        t.endedWith .invalidKeyLength w (BitVec.ofNat 16 s.keylen.toNat) ∧ t.noOutput ∧
        t.sched = none ∧ s.memSameOutside obufBase s.params.bufBytes t ∧ s.sameOutsideCommand t ∧
        t.keylen = s.keylen ∧ t.ksbyte = s.ksbyte)

/-- The host's copy between two RUNs (48_pipeline.md R337): IBUF[0..MSGLEN) of `u` is OBUF[0..OUTLEN) of
`t`, with the same key, key length, IV and parameters. -/
def copiedBack (t u : State) : Prop :=
  u.params = t.params ∧ u.mem.wf = true ∧ u.msglen = t.outlen ∧ u.keylen = t.keylen ∧
    u.mem.readBytes ibufBase t.outlen.toNat = t.mem.readBytes obufBase t.outlen.toNat ∧
    u.mem.readBytes keyBase 256 = t.mem.readBytes keyBase 256 ∧
    u.mem.readBytes ivBase 16 = t.mem.readBytes ivBase 16

/-- The round trip of messages on the machine (48_pipeline.md R337): RUN c, ENC, m on a message x, the
host's copy of OBUF into IBUF, and RUN c, DEC, m give x back in OBUF; for ARC4, RUN in either direction
twice. Both runs succeed. -/
def Obligations.EncryptThenDecryptGivesTheMessage : Prop :=
  (∀ (c : BlockCipher) (m : Chain) (iv : Bool) (s : State),
    s.params.wellFormed = true → s.mem.wf = true →
    s.msglen.toNat < s.params.bufBytes - blockSize c → (m = .cbc → iv = true) →
    keyLengthOk c.cipher s.keylen.toNat = true →
    ∃ t, exec (.run c .enc m iv) s = .next t ∧ t.endedWell ∧
      ∀ u, copiedBack t u → ∃ v, exec (.run c .dec m iv) u = .next v ∧ v.endedWell ∧
        v.outlen = s.msglen ∧
        v.mem.readBytes obufBase v.outlen.toNat = s.mem.readBytes ibufBase s.msglen.toNat) ∧
  (∀ (d d' : Dir) (s : State), s.params.wellFormed = true → s.mem.wf = true →
    s.msglen.toNat < s.params.bufBytes → keyLengthOk .arc4 s.keylen.toNat = true →
    ∃ t, exec (.runArc4 d) s = .next t ∧ t.endedWell ∧
      ∀ u, copiedBack t u → ∃ v, exec (.runArc4 d') u = .next v ∧ v.endedWell ∧
        v.outlen = s.msglen ∧
        v.mem.readBytes obufBase v.outlen.toNat = s.mem.readBytes ibufBase s.msglen.toNat)

/-! ## CLEAR -/

/-- CLEAR (49_control.md R360): the store is None, KSBYTE and KEYLEN are 0, every byte of KEY is 0x00, and
every other byte and register is unchanged; it always succeeds. -/
def Obligations.ClearDiscardsTheKeyMaterial : Prop :=
  ∀ s : State, ∃ t, exec .clear s = .next t ∧ t.endedWell ∧ t.sched = none ∧ t.keyed = false ∧
    t.schedTag = 0 ∧ t.ksbyte = 0 ∧ t.keylen = 0 ∧
    (∀ k, k < 256 → t.mem.read (keyBase + k) = 0) ∧ s.memSameOutside keyBase 256 t ∧
    t.outlen = s.outlen ∧ s.sameOutsideCommand t

/-! ## Rules over all commands -/

/-- No command writes IV or IBUF (10_state.md R49, R51). -/
def Obligations.NoCommandWritesIvOrIbuf : Prop :=
  ∀ (i : Instr) (s t : State), s.params.wellFormed = true → exec i s = .next t →
    (∀ k, k < 16 → t.mem.read (ivBase + k) = s.mem.read (ivBase + k)) ∧
    (∀ k, k < s.params.bufBytes → t.mem.read (ibufBase + k) = s.mem.read (ibufBase + k))

/-- Only CLEAR writes KEY or KEYLEN, and only ENCB and DECB write DATA (10_state.md R48, R50; 20_memory.md
R72; for KEYLEN 49_control.md R360, 41_key_schedule.md R150 and 60_exceptions.md R410). -/
def Obligations.OnlyClearWritesKeyAndOnlyBlockCommandsWriteData : Prop :=
  ∀ (i : Instr) (s t : State), exec i s = .next t →
    (i ≠ .clear → t.keylen = s.keylen ∧
      ∀ k, k < 256 → t.mem.read (keyBase + k) = s.mem.read (keyBase + k)) ∧
    (i ∉ [Instr.encbAes, .decbAes, .encbRc6, .decbRc6, .encbBf, .decbBf, .encbIdea, .decbIdea] →
      ∀ k, k < 16 → t.mem.read (dataBase + k) = s.mem.read (dataBase + k))

/-- The life of a schedule (10_state.md R44; 48_pipeline.md R334; 41_key_schedule.md R154): ENCB, DECB, PAD
and UNPAD leave the store as it is, success or error; RUN and CLEAR leave it None; KSNEXT never turns
it into another cipher's. -/
def Obligations.LifeOfTheSchedule : Prop :=
  ∀ (i : Instr) (s t : State), exec i s = .next t →
    ((i ∈ [Instr.encbAes, .decbAes, .encbRc6, .decbRc6, .encbBf, .decbBf, .encbIdea, .decbIdea] ∨
        ∃ c, i = .pad c ∨ i = .unpad c) → t.sched = s.sched) ∧
    (((∃ c d m iv, i = .run c d m iv) ∨ (∃ d, i = .runArc4 d) ∨ i = .clear) → t.sched = none) ∧
    (i = .ksnext → t.keyed = s.keyed ∧ t.schedTag = s.schedTag)

/-- Errors are precise and leave no partial output (60_exceptions.md R410, R411): when a command ends with
an error, every byte outside OBUF, and KEYLEN and KSBYTE, are as before, OBUF and OUTLEN are as before
or all zero, and the store is as before or None. -/
def Obligations.ErrorsLeaveNoPartialOutput : Prop :=
  ∀ (i : Instr) (s t : State), exec i s = .next t → t.err ≠ 0 →
    s.memSameOutside obufBase s.params.bufBytes t ∧ t.keylen = s.keylen ∧ t.ksbyte = s.ksbyte ∧
      s.sameOutsideCommand t ∧ ((t.outlen = s.outlen ∧ s.memSame t) ∨ t.noOutput) ∧
      (t.sched = s.sched ∨ t.sched = none)

/-! ## The ciphers -/

/-- The field of AES and its S-boxes (43_aes.md R180 to R182): `xtime` is multiplication by 2 modulo 0x11B,
`gmul` is what `xtime` and exclusive-or generate, `gfInv` is the inverse, the normative S-box is the
affine map of it, InvSbox is its inverse, and Sbox has no fixed or opposite fixed point. -/
def Obligations.AesSboxTables : Prop :=
  (∀ b : Byte, (xtime b).toNat = if b.toNat < 128 then 2 * b.toNat else (2 * b.toNat) ^^^ 0x11B) ∧
    (∀ a b c : Byte, gmul a 1 = a ∧ gmul a (xtime b) = xtime (gmul a b) ∧
      gmul a (b ^^^ c) = gmul a b ^^^ gmul a c) ∧
    ∀ x : Byte, (x ≠ 0 → gmul x (gfInv x) = 1) ∧ gfInv 0 = 0 ∧
      sbox x = gfInv x ^^^ (gfInv x).rotateLeft 1 ^^^ (gfInv x).rotateLeft 2 ^^^
        (gfInv x).rotateLeft 3 ^^^ (gfInv x).rotateLeft 4 ^^^ 0x63 ∧
      sbox x = sboxFormula x ∧ invSbox (sbox x) = x ∧ sbox (invSbox x) = x ∧ sbox x ≠ x ∧
      sbox x ≠ x ^^^ 0xFF

/-- InvMixColumns inverts MixColumns (43_aes.md R192). -/
def Obligations.InvMixColumnsInvertsMixColumns : Prop :=
  ∀ b : AesBlock, invMixColumns (mixColumns b) = b

/-- The rounds of `aes_encrypt` byte by byte (43_aes.md R183, R186 to R189, R193): `x r n` is byte n of the
block after round r; row n mod 4 and column n / 4 of the state is byte n. -/
def aesRoundsRule (nr : Nat) (w : List Quad) (b out : Bytes) : Prop :=
  let key (r n : Nat) : Byte := (quadBytes (w.getD (4 * r + n / 4) Quad.zero)).getD (n % 4) 0
  ∃ x : Nat → Nat → Byte,
    (∀ n, n < 16 → x 0 n = byteAt b n ^^^ key 0 n) ∧
    (∀ r n, r + 1 < nr → n < 16 →
      let a (k : Nat) : Byte := sbox (x r ((n + k) % 4 + 4 * ((n / 4 + (n + k) % 4) % 4)))
      x (r + 1) n = gmul 0x02 (a 0) ^^^ gmul 0x03 (a 1) ^^^ a 2 ^^^ a 3 ^^^ key (r + 1) n) ∧
    out.length = 16 ∧
    ∀ n, n < 16 →
      byteAt out n = sbox (x (nr - 1) (n % 4 + 4 * ((n / 4 + n % 4) % 4))) ^^^ key nr n

/-- AES encryption runs its rounds as written, and decryption inverts it, under every schedule (43_aes.md
R193, R194). -/
def Obligations.AesDecryptInvertsEncrypt : Prop :=
  (∀ nr w b, b.length = 16 → aesDecrypt nr w (aesEncrypt nr w b) = b) ∧
    ∀ nr w b, 1 ≤ nr → b.length = 16 → aesRoundsRule nr w b (aesEncrypt nr w b)

/-- The rounds of `rc6_encrypt` (44_rc6.md R221, R224): `a n`, `b n`, `c n` and `d n` are A, B, C and D after
round n. -/
def rc6RoundsRule (s : List Word) (blk out : Bytes) : Prop :=
  let t (x : Word) : Word := (x * (2 * x + 1)).rotateLeft 5
  ∃ a b c d : Nat → Word,
    a 0 = le32 blk 0 ∧ b 0 = le32 blk 4 + s.getD 0 0 ∧ c 0 = le32 blk 8 ∧
    d 0 = le32 blk 12 + s.getD 1 0 ∧
    (∀ n, n < 20 →
      d (n + 1) =
        (a n ^^^ t (b n)).rotateLeft ((t (d n)).toNat % 32) + s.getD (2 * (n + 1)) 0 ∧
      b (n + 1) =
        (c n ^^^ t (d n)).rotateLeft ((t (b n)).toNat % 32) + s.getD (2 * (n + 1) + 1) 0 ∧
      a (n + 1) = b n ∧ c (n + 1) = d n) ∧
    out = le32Bytes (a 20 + s.getD 42 0) ++ le32Bytes (b 20) ++ le32Bytes (c 20 + s.getD 43 0) ++
      le32Bytes (d 20)

/-- RC6 encryption runs its rounds as written, and decryption inverts it, under every schedule (44_rc6.md
R224, R225). -/
def Obligations.Rc6DecryptInvertsEncrypt : Prop :=
  (∀ k b, b.length = 16 → rc6Decrypt k (rc6Encrypt k b) = b) ∧
    ∀ k b, b.length = 16 → rc6RoundsRule k b (rc6Encrypt k b)

/-- The rounds of `bf_encrypt` (45_blowfish.md R251, R253, R254): `l n` and `r n` are xL and xR after n
rounds with their exchanges. -/
def bfRoundsRule (t : BfTables) (b out : Bytes) : Prop :=
  let f (x : Word) : Word :=
    ((t.s0.getD (x.toNat / 2 ^ 24) 0 + t.s1.getD (x.toNat / 2 ^ 16 % 256) 0) ^^^
      t.s2.getD (x.toNat / 2 ^ 8 % 256) 0) + t.s3.getD (x.toNat % 256) 0
  ∃ l r : Nat → Word,
    l 0 = be32 b 0 ∧ r 0 = be32 b 4 ∧
    (∀ n, n < 16 → r (n + 1) = l n ^^^ t.p.getD n 0 ∧ l (n + 1) = r n ^^^ f (r (n + 1))) ∧
    out = be32Bytes (r 16 ^^^ t.p.getD 17 0) ++ be32Bytes (l 16 ^^^ t.p.getD 16 0)

/-- Blowfish encryption runs its rounds as written, and decryption inverts it, under every schedule
(45_blowfish.md R254, R255). -/
def Obligations.BlowfishDecryptInvertsEncrypt : Prop :=
  (∀ k b, b.length = 8 → bfDecrypt k (bfEncrypt k b) = b) ∧
    ∀ k b, b.length = 8 → bfRoundsRule k b (bfEncrypt k b)

/-- The multiplication of IDEA is that of the numbers 1 to 65536 modulo 65537, the word 0 standing for
65536, and inv is its inverse: x ⊙ inv(x) = 1 for every word (46_idea.md R281). -/
def Obligations.IdeaInverseIsInverse : Prop :=
  let num (x : Half) : Nat := if x = 0 then 65536 else x.toNat
  (∀ a b : Half, num (ideaMul a b) = num a * num b % 65537) ∧
    ∀ x : Half, ideaMul x (ideaInv x) = 1

/-- The rounds of `idea_crypt` (46_idea.md R282, R286): `x n` holds X1, X2, X3 and X4 after n rounds. -/
def ideaRoundsRule (t : List Half) (b out : Bytes) : Prop :=
  ∃ x : Nat → IdeaBlock,
    x 0 = ⟨be16 b 0, be16 b 2, be16 b 4, be16 b 6⟩ ∧
    (∀ n, n < 8 →
      let p := ideaMul (x n).x1 (keyAt t (6 * n + 1))
      let q := (x n).x2 + keyAt t (6 * n + 2)
      let u := (x n).x3 + keyAt t (6 * n + 3)
      let v := ideaMul (x n).x4 (keyAt t (6 * n + 4))
      let e := ideaMul (p ^^^ u) (keyAt t (6 * n + 5))
      let f := ideaMul ((q ^^^ v) + e) (keyAt t (6 * n + 6))
      x (n + 1) = ⟨p ^^^ f, u ^^^ f, q ^^^ (e + f), v ^^^ (e + f)⟩) ∧
    out = be16Bytes (ideaMul (x 8).x1 (keyAt t 49)) ++ be16Bytes ((x 8).x3 + keyAt t 50) ++
      be16Bytes ((x 8).x2 + keyAt t 51) ++ be16Bytes (ideaMul (x 8).x4 (keyAt t 52))

/-- The data path of IDEA runs its rounds as written, and under the derived subkeys it undoes itself under
Z (46_idea.md R286, R287). -/
def Obligations.IdeaDecryptInvertsEncrypt : Prop :=
  (∀ z b, b.length = 8 → ideaCrypt (ideaDecKeys z) (ideaCrypt z b) = b) ∧
    ∀ z b, b.length = 8 → ideaRoundsRule z b (ideaCrypt z b)

/-- The boundary values that the spec tabulates: f of RC6 (44_rc6.md R223) and ⊙ and inv of IDEA
(46_idea.md R281). -/
def Obligations.ModularBoundaryValues : Prop :=
  rc6F 0 = 0 ∧ rc6F 1 = 3 ∧ rc6F 0xFFFFFFFF = 1 ∧ rc6F 0x80000000 = 0x80000000 ∧
    ideaMul 0 0 = 1 ∧ ideaMul 0 1 = 0 ∧ ideaMul 0 2 = 0xFFFF ∧ ideaMul 1 1 = 1 ∧
    ideaMul 0xFFFF 0xFFFF = 4 ∧ ideaMul 0x8000 2 = 0 ∧ ideaMul 2 0x8001 = 1 ∧
    ideaInv 0 = 0 ∧ ideaInv 1 = 1 ∧ ideaInv 2 = 0x8001 ∧ ideaInv 3 = 0x5556 ∧
    ideaInv 0x8000 = 0xFFFF ∧ ideaInv 0xFFFF = 0x8000

/-- ARC4 is its own inverse, encryption and decryption are one operation, and the message keeps its
length (47_arc4.md R315). -/
def Obligations.Arc4IsSelfInverse : Prop :=
  (∀ k d, arc4Crypt k (arc4Crypt k d) = d) ∧ (∀ k d, (arc4Crypt k d).length = d.length) ∧
    ∀ s, exec (.runArc4 .dec) s = exec (.runArc4 .enc) s

/-- The ARC4 table is a permutation after the key schedule and stays one after every step (47_arc4.md
R310). -/
def Obligations.Arc4TableStaysAPermutation : Prop :=
  (∀ k, (arc4Ksa k).isPermutation) ∧ ∀ st, st.isPermutation → (arc4Next st).isPermutation
end

