-- ==== Sys2Proof/Laws/Memory.lean ====
section
/-! SUPPORT. The laws of memory: what each operation reads as afterwards, and that each keeps the
canonical form. -/

namespace Sys2Proof.Machine

/-! ## The canonical form -/

@[simp] theorem Memory.wfFrom_nil (lo : Nat) : Memory.wfFrom lo [] = true := rfl

theorem Memory.wfFrom_cons (lo b : Nat) (x : Byte) (m : Memory) :
    Memory.wfFrom lo ((b, x) :: m) = true ↔
      lo ≤ b ∧ x ≠ 0 ∧ Memory.wfFrom (b + 1) m = true := by
  simp [Memory.wfFrom, and_assoc]

theorem Memory.wfFrom_mono {m : Memory} {lo lo' : Nat} (h : lo' ≤ lo)
    (hw : Memory.wfFrom lo m = true) : Memory.wfFrom lo' m = true := by
  cases m with
  | nil => rfl
  | cons c m =>
    obtain ⟨b, x⟩ := c
    rw [Memory.wfFrom_cons] at hw ⊢
    exact ⟨h.trans hw.1, hw.2⟩

theorem Memory.wf_of_wfFrom {m : Memory} {lo : Nat} (hw : Memory.wfFrom lo m = true) :
    m.wf = true := Memory.wfFrom_mono (Nat.zero_le lo) hw

/-- Below its first address a canonical memory reads 0x00. -/
theorem Memory.read_below {m : Memory} {lo a : Nat} (hw : Memory.wfFrom lo m = true) (h : a < lo) :
    m.read a = 0 := by
  induction m generalizing lo with
  | nil => rfl
  | cons c m ih =>
    obtain ⟨b, x⟩ := c
    rw [Memory.wfFrom_cons] at hw
    have hne : a ≠ b := by omega
    simp only [Memory.read, if_neg hne]
    exact ih hw.2.2 (by omega)

/-! ## One byte -/

/-- A write leaves every other byte alone. -/
theorem Memory.read_write_other (m : Memory) {a b : Nat} (v : Byte) (h : b ≠ a) :
    (m.write a v).read b = m.read b := by
  induction m with
  | nil => by_cases hv : v = 0#8 <;> simp [Memory.write, Memory.read, hv, h]
  | cons c m ih =>
    obtain ⟨k, x⟩ := c
    simp only [Memory.write]
    split
    · by_cases hv : v = 0#8 <;> simp [Memory.read, hv, h]
    · split
      · rename_i hk
        subst hk
        by_cases hv : v = 0#8 <;> simp [Memory.read, hv, h]
      · simp only [Memory.read, ih]

/-- A read after a write to the same byte gives the value written. -/
theorem Memory.read_write_same {m : Memory} {lo : Nat} (hw : Memory.wfFrom lo m = true) (a : Nat)
    (v : Byte) : (m.write a v).read a = v := by
  induction m generalizing lo with
  | nil => by_cases hv : v = 0#8 <;> simp [Memory.write, Memory.read, hv]
  | cons c m ih =>
    obtain ⟨k, x⟩ := c
    rw [Memory.wfFrom_cons] at hw
    simp only [Memory.write]
    split
    · rename_i hlt
      by_cases hv : v = 0#8
      · simp [Memory.read, hv, Nat.ne_of_lt hlt, Memory.read_below hw.2.2 (show a < k + 1 by omega)]
      · simp [Memory.read, hv]
    · split
      · rename_i hk
        by_cases hv : v = 0#8
        · simp [hv, Memory.read_below hw.2.2 (show a < k + 1 by omega)]
        · simp [Memory.read, hv]
      · rename_i hne
        simp only [Memory.read, if_neg hne]
        exact ih hw.2.2

/-- What a byte reads as after a write. -/
theorem Memory.read_write {m : Memory} (hw : m.wf = true) (a b : Nat) (v : Byte) :
    (m.write a v).read b = if b = a then v else m.read b := by
  split
  · rename_i h
    rw [h, Memory.read_write_same hw]
  · rename_i h
    rw [Memory.read_write_other m v h]

theorem Memory.wfFrom_write {m : Memory} {lo a : Nat} (hw : Memory.wfFrom lo m = true) (h : lo ≤ a)
    (v : Byte) : Memory.wfFrom lo (m.write a v) = true := by
  induction m generalizing lo with
  | nil => by_cases hv : v = 0#8 <;> simp [Memory.write, Memory.wfFrom, hv, h]
  | cons c m ih =>
    obtain ⟨k, x⟩ := c
    have hw' := hw
    rw [Memory.wfFrom_cons] at hw'
    obtain ⟨h1, h2, h3⟩ := hw'
    simp only [Memory.write]
    split
    · rename_i hlt
      by_cases hv : v = 0#8
      · simpa [hv] using hw
      · simp only [BitVec.ofNat_eq_ofNat, hv, if_false]
        exact (Memory.wfFrom_cons ..).2 ⟨h, hv, (Memory.wfFrom_cons ..).2 ⟨by omega, h2, h3⟩⟩
    · split
      · rename_i hk
        by_cases hv : v = 0#8
        · simp only [BitVec.ofNat_eq_ofNat, hv, if_true]
          exact Memory.wfFrom_mono (by omega) h3
        · simp only [BitVec.ofNat_eq_ofNat, hv, if_false]
          exact (Memory.wfFrom_cons ..).2 ⟨h, hv, hk ▸ h3⟩
      · exact (Memory.wfFrom_cons ..).2 ⟨h1, h2, ih h3 (by omega)⟩

/-- A write keeps the canonical form. -/
theorem Memory.wf_write {m : Memory} (hw : m.wf = true) (a : Nat) (v : Byte) :
    (m.write a v).wf = true := Memory.wfFrom_write hw (Nat.zero_le a) v

/-! ## Byte strings -/

@[simp] theorem Memory.length_readBytes (m : Memory) (a n : Nat) :
    (m.readBytes a n).length = n := by simp [Memory.readBytes]

theorem Memory.getElem?_readBytes (m : Memory) (a n k : Nat) (h : k < n) :
    (m.readBytes a n)[k]? = some (m.read (a + k)) := by
  simp [Memory.readBytes, h]

/-- A string read from memory is the bytes that stand there. -/
theorem Memory.byteAt_readBytes (m : Memory) (a n k : Nat) (h : k < n) :
    byteAt (m.readBytes a n) k = m.read (a + k) := by
  simp [byteAt, List.getD_eq_getElem?_getD, Memory.getElem?_readBytes m a n k h]

/-- Two memories give the same string where they read alike. -/
theorem Memory.readBytes_congr {m m' : Memory} {a n : Nat}
    (h : ∀ k, a ≤ k → k < a + n → m'.read k = m.read k) : m'.readBytes a n = m.readBytes a n := by
  apply List.map_congr_left
  intro k hk
  rw [List.mem_range'_1] at hk
  exact h k hk.1 hk.2

@[simp] theorem Memory.readBytes_zero (m : Memory) (a : Nat) : m.readBytes a 0 = [] := rfl

theorem Memory.readBytes_succ (m : Memory) (a n : Nat) :
    m.readBytes a (n + 1) = m.read a :: m.readBytes (a + 1) n := by
  simp [Memory.readBytes, List.range'_succ]

/-- Writing a string keeps the canonical form. -/
theorem Memory.wf_writeBytes {m : Memory} (hw : m.wf = true) (a : Nat) (v : Bytes) :
    (m.writeBytes a v).wf = true := by
  induction v generalizing m a with
  | nil => exact hw
  | cons x v ih => exact ih (Memory.wf_write hw a x) (a + 1)

/-- Writing a string leaves every byte outside it alone. -/
theorem Memory.read_writeBytes_outside (m : Memory) (a : Nat) (v : Bytes) {b : Nat}
    (h : ¬(a ≤ b ∧ b < a + v.length)) : (m.writeBytes a v).read b = m.read b := by
  induction v generalizing m a with
  | nil => rfl
  | cons x v ih =>
    rw [List.length_cons] at h
    simp only [Memory.writeBytes]
    rw [ih (m.write a x) (a + 1) (by omega), Memory.read_write_other m x (by omega)]

/-- A byte of a string that was written reads as that byte. -/
theorem Memory.read_writeBytes_inside {m : Memory} (hw : m.wf = true) (a : Nat) (v : Bytes) {k : Nat}
    (h : k < v.length) : (m.writeBytes a v).read (a + k) = byteAt v k := by
  induction v generalizing m a k with
  | nil => exact absurd h (Nat.not_lt_zero k)
  | cons x v ih =>
    simp only [Memory.writeBytes]
    cases k with
    | zero =>
      rw [Memory.read_writeBytes_outside _ _ _ (by omega)]
      simpa [byteAt] using Memory.read_write_same hw a x
    | succ k =>
      rw [List.length_cons] at h
      have hk := ih (Memory.wf_write hw a x) (a + 1) (k := k) (by omega)
      rw [show a + (k + 1) = a + 1 + k by omega, hk]
      simp [byteAt]

/-- Reading back a string that was written gives the string. -/
theorem Memory.readBytes_writeBytes {m : Memory} (hw : m.wf = true) (a : Nat) (v : Bytes) :
    (m.writeBytes a v).readBytes a v.length = v := by
  induction v generalizing m a with
  | nil => rfl
  | cons x v ih =>
    rw [List.length_cons, Memory.readBytes_succ]
    simp only [Memory.writeBytes]
    rw [ih (Memory.wf_write hw a x) (a + 1), Memory.read_writeBytes_outside _ _ _ (by omega),
      Memory.read_write_same hw]

/-- Reading a string clear of the bytes written gives what it gave. -/
theorem Memory.readBytes_writeBytes_clear (m : Memory) (a : Nat) (v : Bytes) {b n : Nat}
    (h : b + n ≤ a ∨ a + v.length ≤ b) : (m.writeBytes a v).readBytes b n = m.readBytes b n :=
  Memory.readBytes_congr fun k h1 h2 => Memory.read_writeBytes_outside m a v (by omega)

/-! ## Zero-fill -/

/-- What a byte reads as after a zero-fill. -/
theorem Memory.read_zeroFill (m : Memory) (a n b : Nat) :
    (m.zeroFill a n).read b = if a ≤ b ∧ b < a + n then 0 else m.read b := by
  induction m with
  | nil => simp [Memory.zeroFill, Memory.read]
  | cons c m ih =>
    obtain ⟨k, x⟩ := c
    unfold Memory.zeroFill at ih ⊢
    rw [List.filter_cons]
    by_cases hk : a ≤ k ∧ k < a + n
    · simp only [hk.1, hk.2, decide_true, Bool.and_self, Bool.not_true, Bool.false_eq_true, if_false,
        Memory.read, ih]
      by_cases hb : b = k
      · simp [hb, hk.1, hk.2]
      · simp [hb]
    · have hb : (!(decide (a ≤ k) && decide (k < a + n))) = true := by
        simp only [Bool.not_eq_true', Bool.and_eq_false_iff, decide_eq_false_iff_not]
        omega
      simp only [hb, if_true, Memory.read, ih]
      by_cases hbk : b = k
      · simp [hbk, hk]
      · simp [hbk]

theorem Memory.wfFrom_zeroFill {m : Memory} {lo : Nat} (hw : Memory.wfFrom lo m = true) (a n : Nat) :
    Memory.wfFrom lo (m.zeroFill a n) = true := by
  induction m generalizing lo with
  | nil => rfl
  | cons c m ih =>
    obtain ⟨k, x⟩ := c
    rw [Memory.wfFrom_cons] at hw
    unfold Memory.zeroFill at ih ⊢
    rw [List.filter_cons]
    split
    · exact (Memory.wfFrom_cons ..).2 ⟨hw.1, hw.2.1, ih hw.2.2⟩
    · exact Memory.wfFrom_mono (by omega) (ih hw.2.2)

/-- A zero-fill keeps the canonical form. -/
theorem Memory.wf_zeroFill {m : Memory} (hw : m.wf = true) (a n : Nat) :
    (m.zeroFill a n).wf = true := Memory.wfFrom_zeroFill hw a n

/-! ## Reset -/

/-- Cells made from rising addresses are canonical. -/
theorem Memory.wfFrom_filterMap (f : Nat → Byte) {l : List Nat} {lo : Nat}
    (hl : ∀ a ∈ l, lo ≤ a) (hs : l.Pairwise (· < ·)) :
    Memory.wfFrom lo (l.filterMap fun a => if f a = 0 then none else some (a, f a)) = true := by
  induction l generalizing lo with
  | nil => rfl
  | cons a l ih =>
    rw [List.pairwise_cons] at hs
    have hlo := hl a (by simp)
    have htail := ih (lo := a + 1) (fun b hb => hs.1 b hb) hs.2
    by_cases h0 : f a = 0#8
    · simp only [List.filterMap_cons, BitVec.ofNat_eq_ofNat, h0, if_true]
      exact Memory.wfFrom_mono (by omega) htail
    · simp only [List.filterMap_cons, BitVec.ofNat_eq_ofNat, h0, if_false]
      exact (Memory.wfFrom_cons ..).2 ⟨hlo, h0, htail⟩

/-- The offsets of the core byte space rise (IBUF ends below OBUF). -/
theorem byteSpace_rises {p : Params} (h : p.bufBytes ≤ 0x10000) :
    (byteSpace p).Pairwise (· < ·) := by
  have rises (a n : Nat) : (List.range' a n).Pairwise (· < ·) := List.pairwise_lt_range'
  simp only [byteSpace, List.pairwise_append, rises, List.mem_append, List.mem_range'_1, dataBase,
    ivBase, keyBase, ibufBase, obufBase, true_and]
  refine ⟨⟨⟨?_, ?_⟩, ?_⟩, ?_⟩ <;> intro a ha b hb <;> omega

/-- Memory after a reset is canonical. -/
theorem Memory.wf_resetMemory {p : Params} (h : p.bufBytes ≤ 0x10000) (k : Nat) :
    (resetMemory p k).wf = true := by
  unfold resetMemory
  split
  · rfl
  · exact Memory.wfFrom_filterMap (Config.resetByte k) (fun a _ => Nat.zero_le a) (byteSpace_rises h)

/-- The memory of the state after power-on reset is canonical. -/
theorem reset_mem_wf : State.reset.mem.wf = true := rfl

end Sys2Proof.Machine
end

