-- ==== Sys2Proof/Laws/Packing.lean ====
section
/-! SUPPORT. Packing and its inverse, and the lengths of what the ciphers give. -/

namespace Sys2Proof.Machine

/-- Four bytes packed big-endian and unpacked (00_scope.md R10). -/
theorem be32_be32Bytes (x : Word) : be32 (be32Bytes x) 0 = x := by
  apply BitVec.eq_of_getLsbD_eq
  intro i hi
  simp only [be32, be32Bytes, byteAt, List.getD_cons_zero, List.getD_cons_succ, Nat.zero_add,
    BitVec.getLsbD_append, BitVec.getLsbD_extractLsb']
  interval_cases i <;> simp

/-- Four bytes packed little-endian and unpacked (00_scope.md R10). -/
theorem le32_le32Bytes (x : Word) : le32 (le32Bytes x) 0 = x := by
  have h := be32_be32Bytes x
  simpa [le32, le32Bytes, be32, be32Bytes, byteAt] using h

@[simp] theorem length_le32Bytes (x : Word) : (le32Bytes x).length = 4 := rfl
@[simp] theorem length_be32Bytes (x : Word) : (be32Bytes x).length = 4 := rfl
@[simp] theorem length_be16Bytes (x : Half) : (be16Bytes x).length = 2 := rfl
@[simp] theorem length_quadBytes (q : Quad) : (quadBytes q).length = 4 := rfl
@[simp] theorem length_rep (x : Byte) (n : Nat) : (rep x n).length = n := List.length_replicate

@[simp] theorem length_xorBytes (a b : Bytes) :
    (xorBytes a b).length = min a.length b.length := by simp [xorBytes]

/-- A block of AES has 16 bytes. -/
@[simp] theorem length_aesEncrypt (nr : Nat) (w : List Quad) (b : Bytes) :
    (aesEncrypt nr w b).length = 16 := rfl

@[simp] theorem length_aesDecrypt (nr : Nat) (w : List Quad) (b : Bytes) :
    (aesDecrypt nr w b).length = 16 := rfl

/-- A block of RC6 has 16 bytes. -/
@[simp] theorem length_rc6Encrypt (s : List Word) (b : Bytes) : (rc6Encrypt s b).length = 16 := rfl

@[simp] theorem length_rc6Decrypt (s : List Word) (b : Bytes) : (rc6Decrypt s b).length = 16 := rfl

/-- A block of Blowfish has 8 bytes. -/
@[simp] theorem length_bfEncrypt (t : BfTables) (b : Bytes) : (bfEncrypt t b).length = 8 := rfl

@[simp] theorem length_bfDecrypt (t : BfTables) (b : Bytes) : (bfDecrypt t b).length = 8 := rfl

/-- A block of IDEA has 8 bytes. -/
@[simp] theorem length_ideaCrypt (t : List Half) (b : Bytes) : (ideaCrypt t b).length = 8 := rfl

/-- The keystream exclusive-or keeps the length (47_arc4.md R314). -/
@[simp] theorem length_arc4Xor (st : Arc4State) (b : Bytes) : (arc4Xor st b).length = b.length := by
  induction b generalizing st with
  | nil => rfl
  | cons x b ih => simp [arc4Xor, ih]

@[simp] theorem length_arc4Crypt (k b : Bytes) : (arc4Crypt k b).length = b.length :=
  length_arc4Xor _ b

/-- A swap keeps the length of the table. -/
@[simp] theorem length_arc4Swap (t : List Byte) (x y : Byte) :
    (arc4Swap t x y).length = t.length := by simp [arc4Swap]

/-- Padding adds between 1 and `bs` bytes (40_block_utils.md R130). -/
theorem length_pad (bs : Nat) (d : Bytes) : (pad bs d).length = d.length + (bs - d.length % bs) := by
  simp [pad]

/-- Splitting gives len / bs blocks (40_block_utils.md R132). -/
@[simp] theorem length_split (bs : Nat) (d : Bytes) : (split bs d).length = d.length / bs := by
  simp [split]

end Sys2Proof.Machine
end

