-- ==== Sys2Proof/Laws/State.lean ====
section
/-! SUPPORT. For each update of the state, each of its fields: true by unfolding the update once, so
that no later proof unfolds a record update. -/

namespace Sys2Proof.Machine

/-! ### Replacing the memory -/

@[simp] theorem State.setMem_params (m : Memory) (s : State) :
    (s.setMem m).params = s.params := rfl
@[simp] theorem State.setMem_ie (m : Memory) (s : State) :
    (s.setMem m).ie = s.ie := rfl
@[simp] theorem State.setMem_done (m : Memory) (s : State) :
    (s.setMem m).done = s.done := rfl
@[simp] theorem State.setMem_ovr (m : Memory) (s : State) :
    (s.setMem m).ovr = s.ovr := rfl
@[simp] theorem State.setMem_err (m : Memory) (s : State) :
    (s.setMem m).err = s.err := rfl
@[simp] theorem State.setMem_pending (m : Memory) (s : State) :
    (s.setMem m).pending = s.pending := rfl
@[simp] theorem State.setMem_keylen (m : Memory) (s : State) :
    (s.setMem m).keylen = s.keylen := rfl
@[simp] theorem State.setMem_msglen (m : Memory) (s : State) :
    (s.setMem m).msglen = s.msglen := rfl
@[simp] theorem State.setMem_outlen (m : Memory) (s : State) :
    (s.setMem m).outlen = s.outlen := rfl
@[simp] theorem State.setMem_errinfo (m : Memory) (s : State) :
    (s.setMem m).errinfo = s.errinfo := rfl
@[simp] theorem State.setMem_ksbyte (m : Memory) (s : State) :
    (s.setMem m).ksbyte = s.ksbyte := rfl
@[simp] theorem State.setMem_sched (m : Memory) (s : State) :
    (s.setMem m).sched = s.sched := rfl
@[simp] theorem State.setMem_mem (m : Memory) (s : State) :
    (s.setMem m).mem = m := rfl
@[simp] theorem State.setMem_agenda (m : Memory) (s : State) :
    (s.setMem m).agenda = s.agenda := rfl
@[simp] theorem State.setMem_reply (m : Memory) (s : State) :
    (s.setMem m).reply = s.reply := rfl
@[simp] theorem State.setMem_draws (m : Memory) (s : State) :
    (s.setMem m).draws = s.draws := rfl

/-! ### Replacing the content of the schedule store -/

@[simp] theorem State.setSched_params (k : Option Schedule) (s : State) :
    (s.setSched k).params = s.params := rfl
@[simp] theorem State.setSched_ie (k : Option Schedule) (s : State) :
    (s.setSched k).ie = s.ie := rfl
@[simp] theorem State.setSched_done (k : Option Schedule) (s : State) :
    (s.setSched k).done = s.done := rfl
@[simp] theorem State.setSched_ovr (k : Option Schedule) (s : State) :
    (s.setSched k).ovr = s.ovr := rfl
@[simp] theorem State.setSched_err (k : Option Schedule) (s : State) :
    (s.setSched k).err = s.err := rfl
@[simp] theorem State.setSched_pending (k : Option Schedule) (s : State) :
    (s.setSched k).pending = s.pending := rfl
@[simp] theorem State.setSched_keylen (k : Option Schedule) (s : State) :
    (s.setSched k).keylen = s.keylen := rfl
@[simp] theorem State.setSched_msglen (k : Option Schedule) (s : State) :
    (s.setSched k).msglen = s.msglen := rfl
@[simp] theorem State.setSched_outlen (k : Option Schedule) (s : State) :
    (s.setSched k).outlen = s.outlen := rfl
@[simp] theorem State.setSched_errinfo (k : Option Schedule) (s : State) :
    (s.setSched k).errinfo = s.errinfo := rfl
@[simp] theorem State.setSched_ksbyte (k : Option Schedule) (s : State) :
    (s.setSched k).ksbyte = s.ksbyte := rfl
@[simp] theorem State.setSched_sched (k : Option Schedule) (s : State) :
    (s.setSched k).sched = k := rfl
@[simp] theorem State.setSched_mem (k : Option Schedule) (s : State) :
    (s.setSched k).mem = s.mem := rfl
@[simp] theorem State.setSched_agenda (k : Option Schedule) (s : State) :
    (s.setSched k).agenda = s.agenda := rfl
@[simp] theorem State.setSched_reply (k : Option Schedule) (s : State) :
    (s.setSched k).reply = s.reply := rfl
@[simp] theorem State.setSched_draws (k : Option Schedule) (s : State) :
    (s.setSched k).draws = s.draws := rfl

/-! ### Writing OUTLEN -/

@[simp] theorem State.setOutlen_params (n : Half) (s : State) :
    (s.setOutlen n).params = s.params := rfl
@[simp] theorem State.setOutlen_ie (n : Half) (s : State) :
    (s.setOutlen n).ie = s.ie := rfl
@[simp] theorem State.setOutlen_done (n : Half) (s : State) :
    (s.setOutlen n).done = s.done := rfl
@[simp] theorem State.setOutlen_ovr (n : Half) (s : State) :
    (s.setOutlen n).ovr = s.ovr := rfl
@[simp] theorem State.setOutlen_err (n : Half) (s : State) :
    (s.setOutlen n).err = s.err := rfl
@[simp] theorem State.setOutlen_pending (n : Half) (s : State) :
    (s.setOutlen n).pending = s.pending := rfl
@[simp] theorem State.setOutlen_keylen (n : Half) (s : State) :
    (s.setOutlen n).keylen = s.keylen := rfl
@[simp] theorem State.setOutlen_msglen (n : Half) (s : State) :
    (s.setOutlen n).msglen = s.msglen := rfl
@[simp] theorem State.setOutlen_outlen (n : Half) (s : State) :
    (s.setOutlen n).outlen = n := rfl
@[simp] theorem State.setOutlen_errinfo (n : Half) (s : State) :
    (s.setOutlen n).errinfo = s.errinfo := rfl
@[simp] theorem State.setOutlen_ksbyte (n : Half) (s : State) :
    (s.setOutlen n).ksbyte = s.ksbyte := rfl
@[simp] theorem State.setOutlen_sched (n : Half) (s : State) :
    (s.setOutlen n).sched = s.sched := rfl
@[simp] theorem State.setOutlen_mem (n : Half) (s : State) :
    (s.setOutlen n).mem = s.mem := rfl
@[simp] theorem State.setOutlen_agenda (n : Half) (s : State) :
    (s.setOutlen n).agenda = s.agenda := rfl
@[simp] theorem State.setOutlen_reply (n : Half) (s : State) :
    (s.setOutlen n).reply = s.reply := rfl
@[simp] theorem State.setOutlen_draws (n : Half) (s : State) :
    (s.setOutlen n).draws = s.draws := rfl

/-! ### Writing KSBYTE -/

@[simp] theorem State.setKsbyte_params (b : Byte) (s : State) :
    (s.setKsbyte b).params = s.params := rfl
@[simp] theorem State.setKsbyte_ie (b : Byte) (s : State) :
    (s.setKsbyte b).ie = s.ie := rfl
@[simp] theorem State.setKsbyte_done (b : Byte) (s : State) :
    (s.setKsbyte b).done = s.done := rfl
@[simp] theorem State.setKsbyte_ovr (b : Byte) (s : State) :
    (s.setKsbyte b).ovr = s.ovr := rfl
@[simp] theorem State.setKsbyte_err (b : Byte) (s : State) :
    (s.setKsbyte b).err = s.err := rfl
@[simp] theorem State.setKsbyte_pending (b : Byte) (s : State) :
    (s.setKsbyte b).pending = s.pending := rfl
@[simp] theorem State.setKsbyte_keylen (b : Byte) (s : State) :
    (s.setKsbyte b).keylen = s.keylen := rfl
@[simp] theorem State.setKsbyte_msglen (b : Byte) (s : State) :
    (s.setKsbyte b).msglen = s.msglen := rfl
@[simp] theorem State.setKsbyte_outlen (b : Byte) (s : State) :
    (s.setKsbyte b).outlen = s.outlen := rfl
@[simp] theorem State.setKsbyte_errinfo (b : Byte) (s : State) :
    (s.setKsbyte b).errinfo = s.errinfo := rfl
@[simp] theorem State.setKsbyte_ksbyte (b : Byte) (s : State) :
    (s.setKsbyte b).ksbyte = b := rfl
@[simp] theorem State.setKsbyte_sched (b : Byte) (s : State) :
    (s.setKsbyte b).sched = s.sched := rfl
@[simp] theorem State.setKsbyte_mem (b : Byte) (s : State) :
    (s.setKsbyte b).mem = s.mem := rfl
@[simp] theorem State.setKsbyte_agenda (b : Byte) (s : State) :
    (s.setKsbyte b).agenda = s.agenda := rfl
@[simp] theorem State.setKsbyte_reply (b : Byte) (s : State) :
    (s.setKsbyte b).reply = s.reply := rfl
@[simp] theorem State.setKsbyte_draws (b : Byte) (s : State) :
    (s.setKsbyte b).draws = s.draws := rfl

/-! ### Writing KEYLEN -/

@[simp] theorem State.setKeylen_params (n : BitVec 9) (s : State) :
    (s.setKeylen n).params = s.params := rfl
@[simp] theorem State.setKeylen_ie (n : BitVec 9) (s : State) :
    (s.setKeylen n).ie = s.ie := rfl
@[simp] theorem State.setKeylen_done (n : BitVec 9) (s : State) :
    (s.setKeylen n).done = s.done := rfl
@[simp] theorem State.setKeylen_ovr (n : BitVec 9) (s : State) :
    (s.setKeylen n).ovr = s.ovr := rfl
@[simp] theorem State.setKeylen_err (n : BitVec 9) (s : State) :
    (s.setKeylen n).err = s.err := rfl
@[simp] theorem State.setKeylen_pending (n : BitVec 9) (s : State) :
    (s.setKeylen n).pending = s.pending := rfl
@[simp] theorem State.setKeylen_keylen (n : BitVec 9) (s : State) :
    (s.setKeylen n).keylen = n := rfl
@[simp] theorem State.setKeylen_msglen (n : BitVec 9) (s : State) :
    (s.setKeylen n).msglen = s.msglen := rfl
@[simp] theorem State.setKeylen_outlen (n : BitVec 9) (s : State) :
    (s.setKeylen n).outlen = s.outlen := rfl
@[simp] theorem State.setKeylen_errinfo (n : BitVec 9) (s : State) :
    (s.setKeylen n).errinfo = s.errinfo := rfl
@[simp] theorem State.setKeylen_ksbyte (n : BitVec 9) (s : State) :
    (s.setKeylen n).ksbyte = s.ksbyte := rfl
@[simp] theorem State.setKeylen_sched (n : BitVec 9) (s : State) :
    (s.setKeylen n).sched = s.sched := rfl
@[simp] theorem State.setKeylen_mem (n : BitVec 9) (s : State) :
    (s.setKeylen n).mem = s.mem := rfl
@[simp] theorem State.setKeylen_agenda (n : BitVec 9) (s : State) :
    (s.setKeylen n).agenda = s.agenda := rfl
@[simp] theorem State.setKeylen_reply (n : BitVec 9) (s : State) :
    (s.setKeylen n).reply = s.reply := rfl
@[simp] theorem State.setKeylen_draws (n : BitVec 9) (s : State) :
    (s.setKeylen n).draws = s.draws := rfl

/-! ### Writing MSGLEN -/

@[simp] theorem State.setMsglen_params (n : Half) (s : State) :
    (s.setMsglen n).params = s.params := rfl
@[simp] theorem State.setMsglen_ie (n : Half) (s : State) :
    (s.setMsglen n).ie = s.ie := rfl
@[simp] theorem State.setMsglen_done (n : Half) (s : State) :
    (s.setMsglen n).done = s.done := rfl
@[simp] theorem State.setMsglen_ovr (n : Half) (s : State) :
    (s.setMsglen n).ovr = s.ovr := rfl
@[simp] theorem State.setMsglen_err (n : Half) (s : State) :
    (s.setMsglen n).err = s.err := rfl
@[simp] theorem State.setMsglen_pending (n : Half) (s : State) :
    (s.setMsglen n).pending = s.pending := rfl
@[simp] theorem State.setMsglen_keylen (n : Half) (s : State) :
    (s.setMsglen n).keylen = s.keylen := rfl
@[simp] theorem State.setMsglen_msglen (n : Half) (s : State) :
    (s.setMsglen n).msglen = n := rfl
@[simp] theorem State.setMsglen_outlen (n : Half) (s : State) :
    (s.setMsglen n).outlen = s.outlen := rfl
@[simp] theorem State.setMsglen_errinfo (n : Half) (s : State) :
    (s.setMsglen n).errinfo = s.errinfo := rfl
@[simp] theorem State.setMsglen_ksbyte (n : Half) (s : State) :
    (s.setMsglen n).ksbyte = s.ksbyte := rfl
@[simp] theorem State.setMsglen_sched (n : Half) (s : State) :
    (s.setMsglen n).sched = s.sched := rfl
@[simp] theorem State.setMsglen_mem (n : Half) (s : State) :
    (s.setMsglen n).mem = s.mem := rfl
@[simp] theorem State.setMsglen_agenda (n : Half) (s : State) :
    (s.setMsglen n).agenda = s.agenda := rfl
@[simp] theorem State.setMsglen_reply (n : Half) (s : State) :
    (s.setMsglen n).reply = s.reply := rfl
@[simp] theorem State.setMsglen_draws (n : Half) (s : State) :
    (s.setMsglen n).draws = s.draws := rfl

/-! ### Replacing the agenda -/

@[simp] theorem State.setAgenda_params (l : List Turn) (s : State) :
    (s.setAgenda l).params = s.params := rfl
@[simp] theorem State.setAgenda_ie (l : List Turn) (s : State) :
    (s.setAgenda l).ie = s.ie := rfl
@[simp] theorem State.setAgenda_done (l : List Turn) (s : State) :
    (s.setAgenda l).done = s.done := rfl
@[simp] theorem State.setAgenda_ovr (l : List Turn) (s : State) :
    (s.setAgenda l).ovr = s.ovr := rfl
@[simp] theorem State.setAgenda_err (l : List Turn) (s : State) :
    (s.setAgenda l).err = s.err := rfl
@[simp] theorem State.setAgenda_pending (l : List Turn) (s : State) :
    (s.setAgenda l).pending = s.pending := rfl
@[simp] theorem State.setAgenda_keylen (l : List Turn) (s : State) :
    (s.setAgenda l).keylen = s.keylen := rfl
@[simp] theorem State.setAgenda_msglen (l : List Turn) (s : State) :
    (s.setAgenda l).msglen = s.msglen := rfl
@[simp] theorem State.setAgenda_outlen (l : List Turn) (s : State) :
    (s.setAgenda l).outlen = s.outlen := rfl
@[simp] theorem State.setAgenda_errinfo (l : List Turn) (s : State) :
    (s.setAgenda l).errinfo = s.errinfo := rfl
@[simp] theorem State.setAgenda_ksbyte (l : List Turn) (s : State) :
    (s.setAgenda l).ksbyte = s.ksbyte := rfl
@[simp] theorem State.setAgenda_sched (l : List Turn) (s : State) :
    (s.setAgenda l).sched = s.sched := rfl
@[simp] theorem State.setAgenda_mem (l : List Turn) (s : State) :
    (s.setAgenda l).mem = s.mem := rfl
@[simp] theorem State.setAgenda_agenda (l : List Turn) (s : State) :
    (s.setAgenda l).agenda = l := rfl
@[simp] theorem State.setAgenda_reply (l : List Turn) (s : State) :
    (s.setAgenda l).reply = s.reply := rfl
@[simp] theorem State.setAgenda_draws (l : List Turn) (s : State) :
    (s.setAgenda l).draws = s.draws := rfl

/-! ### Writing DATA -/

@[simp] theorem State.writeData_params (v : Bytes) (s : State) :
    (s.writeData v).params = s.params := rfl
@[simp] theorem State.writeData_ie (v : Bytes) (s : State) :
    (s.writeData v).ie = s.ie := rfl
@[simp] theorem State.writeData_done (v : Bytes) (s : State) :
    (s.writeData v).done = s.done := rfl
@[simp] theorem State.writeData_ovr (v : Bytes) (s : State) :
    (s.writeData v).ovr = s.ovr := rfl
@[simp] theorem State.writeData_err (v : Bytes) (s : State) :
    (s.writeData v).err = s.err := rfl
@[simp] theorem State.writeData_pending (v : Bytes) (s : State) :
    (s.writeData v).pending = s.pending := rfl
@[simp] theorem State.writeData_keylen (v : Bytes) (s : State) :
    (s.writeData v).keylen = s.keylen := rfl
@[simp] theorem State.writeData_msglen (v : Bytes) (s : State) :
    (s.writeData v).msglen = s.msglen := rfl
@[simp] theorem State.writeData_outlen (v : Bytes) (s : State) :
    (s.writeData v).outlen = s.outlen := rfl
@[simp] theorem State.writeData_errinfo (v : Bytes) (s : State) :
    (s.writeData v).errinfo = s.errinfo := rfl
@[simp] theorem State.writeData_ksbyte (v : Bytes) (s : State) :
    (s.writeData v).ksbyte = s.ksbyte := rfl
@[simp] theorem State.writeData_sched (v : Bytes) (s : State) :
    (s.writeData v).sched = s.sched := rfl
@[simp] theorem State.writeData_mem (v : Bytes) (s : State) :
    (s.writeData v).mem = s.mem.writeBytes dataBase v := rfl
@[simp] theorem State.writeData_agenda (v : Bytes) (s : State) :
    (s.writeData v).agenda = s.agenda := rfl
@[simp] theorem State.writeData_reply (v : Bytes) (s : State) :
    (s.writeData v).reply = s.reply := rfl
@[simp] theorem State.writeData_draws (v : Bytes) (s : State) :
    (s.writeData v).draws = s.draws := rfl

/-! ### Writing OBUF and OUTLEN -/

@[simp] theorem State.writeOutput_params (v : Bytes) (s : State) :
    (s.writeOutput v).params = s.params := rfl
@[simp] theorem State.writeOutput_ie (v : Bytes) (s : State) :
    (s.writeOutput v).ie = s.ie := rfl
@[simp] theorem State.writeOutput_done (v : Bytes) (s : State) :
    (s.writeOutput v).done = s.done := rfl
@[simp] theorem State.writeOutput_ovr (v : Bytes) (s : State) :
    (s.writeOutput v).ovr = s.ovr := rfl
@[simp] theorem State.writeOutput_err (v : Bytes) (s : State) :
    (s.writeOutput v).err = s.err := rfl
@[simp] theorem State.writeOutput_pending (v : Bytes) (s : State) :
    (s.writeOutput v).pending = s.pending := rfl
@[simp] theorem State.writeOutput_keylen (v : Bytes) (s : State) :
    (s.writeOutput v).keylen = s.keylen := rfl
@[simp] theorem State.writeOutput_msglen (v : Bytes) (s : State) :
    (s.writeOutput v).msglen = s.msglen := rfl
@[simp] theorem State.writeOutput_outlen (v : Bytes) (s : State) :
    (s.writeOutput v).outlen = BitVec.ofNat 16 v.length := rfl
@[simp] theorem State.writeOutput_errinfo (v : Bytes) (s : State) :
    (s.writeOutput v).errinfo = s.errinfo := rfl
@[simp] theorem State.writeOutput_ksbyte (v : Bytes) (s : State) :
    (s.writeOutput v).ksbyte = s.ksbyte := rfl
@[simp] theorem State.writeOutput_sched (v : Bytes) (s : State) :
    (s.writeOutput v).sched = s.sched := rfl
@[simp] theorem State.writeOutput_mem (v : Bytes) (s : State) :
    (s.writeOutput v).mem = s.mem.writeBytes obufBase v := rfl
@[simp] theorem State.writeOutput_agenda (v : Bytes) (s : State) :
    (s.writeOutput v).agenda = s.agenda := rfl
@[simp] theorem State.writeOutput_reply (v : Bytes) (s : State) :
    (s.writeOutput v).reply = s.reply := rfl
@[simp] theorem State.writeOutput_draws (v : Bytes) (s : State) :
    (s.writeOutput v).draws = s.draws := rfl

/-! ### Clearing OBUF and OUTLEN -/

@[simp] theorem State.clearOutput_params (s : State) :
    s.clearOutput.params = s.params := rfl
@[simp] theorem State.clearOutput_ie (s : State) :
    s.clearOutput.ie = s.ie := rfl
@[simp] theorem State.clearOutput_done (s : State) :
    s.clearOutput.done = s.done := rfl
@[simp] theorem State.clearOutput_ovr (s : State) :
    s.clearOutput.ovr = s.ovr := rfl
@[simp] theorem State.clearOutput_err (s : State) :
    s.clearOutput.err = s.err := rfl
@[simp] theorem State.clearOutput_pending (s : State) :
    s.clearOutput.pending = s.pending := rfl
@[simp] theorem State.clearOutput_keylen (s : State) :
    s.clearOutput.keylen = s.keylen := rfl
@[simp] theorem State.clearOutput_msglen (s : State) :
    s.clearOutput.msglen = s.msglen := rfl
@[simp] theorem State.clearOutput_outlen (s : State) :
    s.clearOutput.outlen = 0 := rfl
@[simp] theorem State.clearOutput_errinfo (s : State) :
    s.clearOutput.errinfo = s.errinfo := rfl
@[simp] theorem State.clearOutput_ksbyte (s : State) :
    s.clearOutput.ksbyte = s.ksbyte := rfl
@[simp] theorem State.clearOutput_sched (s : State) :
    s.clearOutput.sched = s.sched := rfl
@[simp] theorem State.clearOutput_mem (s : State) :
    s.clearOutput.mem = s.mem.zeroFill obufBase s.params.bufBytes := rfl
@[simp] theorem State.clearOutput_agenda (s : State) :
    s.clearOutput.agenda = s.agenda := rfl
@[simp] theorem State.clearOutput_reply (s : State) :
    s.clearOutput.reply = s.reply := rfl
@[simp] theorem State.clearOutput_draws (s : State) :
    s.clearOutput.draws = s.draws := rfl

/-! ### The completion of a command -/

@[simp] theorem State.complete_params (c : BitVec 4) (w : Word) (s : State) :
    (s.complete c w).params = s.params := rfl
@[simp] theorem State.complete_ie (c : BitVec 4) (w : Word) (s : State) :
    (s.complete c w).ie = s.ie := rfl
@[simp] theorem State.complete_done (c : BitVec 4) (w : Word) (s : State) :
    (s.complete c w).done = true := rfl
@[simp] theorem State.complete_ovr (c : BitVec 4) (w : Word) (s : State) :
    (s.complete c w).ovr = s.ovr := rfl
@[simp] theorem State.complete_err (c : BitVec 4) (w : Word) (s : State) :
    (s.complete c w).err = c := rfl
@[simp] theorem State.complete_pending (c : BitVec 4) (w : Word) (s : State) :
    (s.complete c w).pending = none := rfl
@[simp] theorem State.complete_keylen (c : BitVec 4) (w : Word) (s : State) :
    (s.complete c w).keylen = s.keylen := rfl
@[simp] theorem State.complete_msglen (c : BitVec 4) (w : Word) (s : State) :
    (s.complete c w).msglen = s.msglen := rfl
@[simp] theorem State.complete_outlen (c : BitVec 4) (w : Word) (s : State) :
    (s.complete c w).outlen = s.outlen := rfl
@[simp] theorem State.complete_errinfo (c : BitVec 4) (w : Word) (s : State) :
    (s.complete c w).errinfo = w := rfl
@[simp] theorem State.complete_ksbyte (c : BitVec 4) (w : Word) (s : State) :
    (s.complete c w).ksbyte = s.ksbyte := rfl
@[simp] theorem State.complete_sched (c : BitVec 4) (w : Word) (s : State) :
    (s.complete c w).sched = s.sched := rfl
@[simp] theorem State.complete_mem (c : BitVec 4) (w : Word) (s : State) :
    (s.complete c w).mem = s.mem := rfl
@[simp] theorem State.complete_agenda (c : BitVec 4) (w : Word) (s : State) :
    (s.complete c w).agenda = s.agenda := rfl
@[simp] theorem State.complete_reply (c : BitVec 4) (w : Word) (s : State) :
    (s.complete c w).reply = s.reply := rfl
@[simp] theorem State.complete_draws (c : BitVec 4) (w : Word) (s : State) :
    (s.complete c w).draws = s.draws := rfl

/-! ### The completion of a command with success -/

@[simp] theorem State.succeed_params (s : State) :
    s.succeed.params = s.params := rfl
@[simp] theorem State.succeed_ie (s : State) :
    s.succeed.ie = s.ie := rfl
@[simp] theorem State.succeed_done (s : State) :
    s.succeed.done = true := rfl
@[simp] theorem State.succeed_ovr (s : State) :
    s.succeed.ovr = s.ovr := rfl
@[simp] theorem State.succeed_err (s : State) :
    s.succeed.err = 0 := rfl
@[simp] theorem State.succeed_pending (s : State) :
    s.succeed.pending = none := rfl
@[simp] theorem State.succeed_keylen (s : State) :
    s.succeed.keylen = s.keylen := rfl
@[simp] theorem State.succeed_msglen (s : State) :
    s.succeed.msglen = s.msglen := rfl
@[simp] theorem State.succeed_outlen (s : State) :
    s.succeed.outlen = s.outlen := rfl
@[simp] theorem State.succeed_errinfo (s : State) :
    s.succeed.errinfo = 0 := rfl
@[simp] theorem State.succeed_ksbyte (s : State) :
    s.succeed.ksbyte = s.ksbyte := rfl
@[simp] theorem State.succeed_sched (s : State) :
    s.succeed.sched = s.sched := rfl
@[simp] theorem State.succeed_mem (s : State) :
    s.succeed.mem = s.mem := rfl
@[simp] theorem State.succeed_agenda (s : State) :
    s.succeed.agenda = s.agenda := rfl
@[simp] theorem State.succeed_reply (s : State) :
    s.succeed.reply = s.reply := rfl
@[simp] theorem State.succeed_draws (s : State) :
    s.succeed.draws = s.draws := rfl

/-! ### The host's acknowledgement -/

@[simp] theorem State.acknowledge_params (s : State) :
    s.acknowledge.params = s.params := rfl
@[simp] theorem State.acknowledge_ie (s : State) :
    s.acknowledge.ie = s.ie := rfl
@[simp] theorem State.acknowledge_done (s : State) :
    s.acknowledge.done = false := rfl
@[simp] theorem State.acknowledge_ovr (s : State) :
    s.acknowledge.ovr = s.ovr := rfl
@[simp] theorem State.acknowledge_err (s : State) :
    s.acknowledge.err = s.err := rfl
@[simp] theorem State.acknowledge_pending (s : State) :
    s.acknowledge.pending = s.pending := rfl
@[simp] theorem State.acknowledge_keylen (s : State) :
    s.acknowledge.keylen = s.keylen := rfl
@[simp] theorem State.acknowledge_msglen (s : State) :
    s.acknowledge.msglen = s.msglen := rfl
@[simp] theorem State.acknowledge_outlen (s : State) :
    s.acknowledge.outlen = s.outlen := rfl
@[simp] theorem State.acknowledge_errinfo (s : State) :
    s.acknowledge.errinfo = s.errinfo := rfl
@[simp] theorem State.acknowledge_ksbyte (s : State) :
    s.acknowledge.ksbyte = s.ksbyte := rfl
@[simp] theorem State.acknowledge_sched (s : State) :
    s.acknowledge.sched = s.sched := rfl
@[simp] theorem State.acknowledge_mem (s : State) :
    s.acknowledge.mem = s.mem := rfl
@[simp] theorem State.acknowledge_agenda (s : State) :
    s.acknowledge.agenda = s.agenda := rfl
@[simp] theorem State.acknowledge_reply (s : State) :
    s.acknowledge.reply = s.reply := rfl
@[simp] theorem State.acknowledge_draws (s : State) :
    s.acknowledge.draws = s.draws := rfl

/-! ### Clearing OVR -/

@[simp] theorem State.clearOvr_params (s : State) :
    s.clearOvr.params = s.params := rfl
@[simp] theorem State.clearOvr_ie (s : State) :
    s.clearOvr.ie = s.ie := rfl
@[simp] theorem State.clearOvr_done (s : State) :
    s.clearOvr.done = s.done := rfl
@[simp] theorem State.clearOvr_ovr (s : State) :
    s.clearOvr.ovr = false := rfl
@[simp] theorem State.clearOvr_err (s : State) :
    s.clearOvr.err = s.err := rfl
@[simp] theorem State.clearOvr_pending (s : State) :
    s.clearOvr.pending = s.pending := rfl
@[simp] theorem State.clearOvr_keylen (s : State) :
    s.clearOvr.keylen = s.keylen := rfl
@[simp] theorem State.clearOvr_msglen (s : State) :
    s.clearOvr.msglen = s.msglen := rfl
@[simp] theorem State.clearOvr_outlen (s : State) :
    s.clearOvr.outlen = s.outlen := rfl
@[simp] theorem State.clearOvr_errinfo (s : State) :
    s.clearOvr.errinfo = s.errinfo := rfl
@[simp] theorem State.clearOvr_ksbyte (s : State) :
    s.clearOvr.ksbyte = s.ksbyte := rfl
@[simp] theorem State.clearOvr_sched (s : State) :
    s.clearOvr.sched = s.sched := rfl
@[simp] theorem State.clearOvr_mem (s : State) :
    s.clearOvr.mem = s.mem := rfl
@[simp] theorem State.clearOvr_agenda (s : State) :
    s.clearOvr.agenda = s.agenda := rfl
@[simp] theorem State.clearOvr_reply (s : State) :
    s.clearOvr.reply = s.reply := rfl
@[simp] theorem State.clearOvr_draws (s : State) :
    s.clearOvr.draws = s.draws := rfl

/-! ### Acceptance -/

@[simp] theorem State.accept_params (v : Word) (s : State) :
    (s.accept v).params = s.params := rfl
@[simp] theorem State.accept_ie (v : Word) (s : State) :
    (s.accept v).ie = s.ie := rfl
@[simp] theorem State.accept_done (v : Word) (s : State) :
    (s.accept v).done = false := rfl
@[simp] theorem State.accept_ovr (v : Word) (s : State) :
    (s.accept v).ovr = s.ovr := rfl
@[simp] theorem State.accept_err (v : Word) (s : State) :
    (s.accept v).err = 0 := rfl
@[simp] theorem State.accept_pending (v : Word) (s : State) :
    (s.accept v).pending = some v := rfl
@[simp] theorem State.accept_keylen (v : Word) (s : State) :
    (s.accept v).keylen = s.keylen := rfl
@[simp] theorem State.accept_msglen (v : Word) (s : State) :
    (s.accept v).msglen = s.msglen := rfl
@[simp] theorem State.accept_outlen (v : Word) (s : State) :
    (s.accept v).outlen = s.outlen := rfl
@[simp] theorem State.accept_errinfo (v : Word) (s : State) :
    (s.accept v).errinfo = s.errinfo := rfl
@[simp] theorem State.accept_ksbyte (v : Word) (s : State) :
    (s.accept v).ksbyte = s.ksbyte := rfl
@[simp] theorem State.accept_sched (v : Word) (s : State) :
    (s.accept v).sched = s.sched := rfl
@[simp] theorem State.accept_mem (v : Word) (s : State) :
    (s.accept v).mem = s.mem := rfl
@[simp] theorem State.accept_agenda (v : Word) (s : State) :
    (s.accept v).agenda = s.agenda := rfl
@[simp] theorem State.accept_reply (v : Word) (s : State) :
    (s.accept v).reply = s.reply := rfl
@[simp] theorem State.accept_draws (v : Word) (s : State) :
    (s.accept v).draws = s.draws := rfl

/-! ### A dropped write -/

@[simp] theorem State.dropWrite_params (s : State) :
    s.dropWrite.params = s.params := rfl
@[simp] theorem State.dropWrite_ie (s : State) :
    s.dropWrite.ie = s.ie := rfl
@[simp] theorem State.dropWrite_done (s : State) :
    s.dropWrite.done = s.done := rfl
@[simp] theorem State.dropWrite_ovr (s : State) :
    s.dropWrite.ovr = true := rfl
@[simp] theorem State.dropWrite_err (s : State) :
    s.dropWrite.err = s.err := rfl
@[simp] theorem State.dropWrite_pending (s : State) :
    s.dropWrite.pending = s.pending := rfl
@[simp] theorem State.dropWrite_keylen (s : State) :
    s.dropWrite.keylen = s.keylen := rfl
@[simp] theorem State.dropWrite_msglen (s : State) :
    s.dropWrite.msglen = s.msglen := rfl
@[simp] theorem State.dropWrite_outlen (s : State) :
    s.dropWrite.outlen = s.outlen := rfl
@[simp] theorem State.dropWrite_errinfo (s : State) :
    s.dropWrite.errinfo = s.errinfo := rfl
@[simp] theorem State.dropWrite_ksbyte (s : State) :
    s.dropWrite.ksbyte = s.ksbyte := rfl
@[simp] theorem State.dropWrite_sched (s : State) :
    s.dropWrite.sched = s.sched := rfl
@[simp] theorem State.dropWrite_mem (s : State) :
    s.dropWrite.mem = s.mem := rfl
@[simp] theorem State.dropWrite_agenda (s : State) :
    s.dropWrite.agenda = s.agenda := rfl
@[simp] theorem State.dropWrite_reply (s : State) :
    s.dropWrite.reply = s.reply := rfl
@[simp] theorem State.dropWrite_draws (s : State) :
    s.dropWrite.draws = s.draws := rfl

/-! ### Reset -/

@[simp] theorem State.resetCore_params (s : State) :
    s.resetCore.params = s.params := rfl
@[simp] theorem State.resetCore_ie (s : State) :
    s.resetCore.ie = false := rfl
@[simp] theorem State.resetCore_done (s : State) :
    s.resetCore.done = false := rfl
@[simp] theorem State.resetCore_ovr (s : State) :
    s.resetCore.ovr = false := rfl
@[simp] theorem State.resetCore_err (s : State) :
    s.resetCore.err = 0 := rfl
@[simp] theorem State.resetCore_pending (s : State) :
    s.resetCore.pending = none := rfl
@[simp] theorem State.resetCore_keylen (s : State) :
    s.resetCore.keylen = 0 := rfl
@[simp] theorem State.resetCore_msglen (s : State) :
    s.resetCore.msglen = 0 := rfl
@[simp] theorem State.resetCore_outlen (s : State) :
    s.resetCore.outlen = 0 := rfl
@[simp] theorem State.resetCore_errinfo (s : State) :
    s.resetCore.errinfo = 0 := rfl
@[simp] theorem State.resetCore_ksbyte (s : State) :
    s.resetCore.ksbyte = 0 := rfl
@[simp] theorem State.resetCore_sched (s : State) :
    s.resetCore.sched = none := rfl
@[simp] theorem State.resetCore_mem (s : State) :
    s.resetCore.mem = resetMemory s.params s.draws := rfl
@[simp] theorem State.resetCore_agenda (s : State) :
    s.resetCore.agenda = s.agenda := rfl
@[simp] theorem State.resetCore_reply (s : State) :
    s.resetCore.reply = s.reply := rfl
@[simp] theorem State.resetCore_draws (s : State) :
    s.resetCore.draws = if s.params.resetClears then s.draws else s.draws + 1 := rfl

/-! ### CLEAR's writes -/

@[simp] theorem State.discardKey_params (s : State) :
    s.discardKey.params = s.params := rfl
@[simp] theorem State.discardKey_ie (s : State) :
    s.discardKey.ie = s.ie := rfl
@[simp] theorem State.discardKey_done (s : State) :
    s.discardKey.done = s.done := rfl
@[simp] theorem State.discardKey_ovr (s : State) :
    s.discardKey.ovr = s.ovr := rfl
@[simp] theorem State.discardKey_err (s : State) :
    s.discardKey.err = s.err := rfl
@[simp] theorem State.discardKey_pending (s : State) :
    s.discardKey.pending = s.pending := rfl
@[simp] theorem State.discardKey_keylen (s : State) :
    s.discardKey.keylen = 0 := rfl
@[simp] theorem State.discardKey_msglen (s : State) :
    s.discardKey.msglen = s.msglen := rfl
@[simp] theorem State.discardKey_outlen (s : State) :
    s.discardKey.outlen = s.outlen := rfl
@[simp] theorem State.discardKey_errinfo (s : State) :
    s.discardKey.errinfo = s.errinfo := rfl
@[simp] theorem State.discardKey_ksbyte (s : State) :
    s.discardKey.ksbyte = 0 := rfl
@[simp] theorem State.discardKey_sched (s : State) :
    s.discardKey.sched = none := rfl
@[simp] theorem State.discardKey_mem (s : State) :
    s.discardKey.mem = s.mem.zeroFill keyBase 256 := rfl
@[simp] theorem State.discardKey_agenda (s : State) :
    s.discardKey.agenda = s.agenda := rfl
@[simp] theorem State.discardKey_reply (s : State) :
    s.discardKey.reply = s.reply := rfl
@[simp] theorem State.discardKey_draws (s : State) :
    s.discardKey.draws = s.draws := rfl

/-! ### The ending of a RUN with its result -/

@[simp] theorem runResult_params (v : Bytes) (s : State) :
    (runResult v s).params = s.params := rfl
@[simp] theorem runResult_ie (v : Bytes) (s : State) :
    (runResult v s).ie = s.ie := rfl
@[simp] theorem runResult_done (v : Bytes) (s : State) :
    (runResult v s).done = true := rfl
@[simp] theorem runResult_ovr (v : Bytes) (s : State) :
    (runResult v s).ovr = s.ovr := rfl
@[simp] theorem runResult_err (v : Bytes) (s : State) :
    (runResult v s).err = 0 := rfl
@[simp] theorem runResult_pending (v : Bytes) (s : State) :
    (runResult v s).pending = none := rfl
@[simp] theorem runResult_keylen (v : Bytes) (s : State) :
    (runResult v s).keylen = s.keylen := rfl
@[simp] theorem runResult_msglen (v : Bytes) (s : State) :
    (runResult v s).msglen = s.msglen := rfl
@[simp] theorem runResult_outlen (v : Bytes) (s : State) :
    (runResult v s).outlen = BitVec.ofNat 16 v.length := rfl
@[simp] theorem runResult_errinfo (v : Bytes) (s : State) :
    (runResult v s).errinfo = 0 := rfl
@[simp] theorem runResult_ksbyte (v : Bytes) (s : State) :
    (runResult v s).ksbyte = s.ksbyte := rfl
@[simp] theorem runResult_sched (v : Bytes) (s : State) :
    (runResult v s).sched = none := rfl
@[simp] theorem runResult_mem (v : Bytes) (s : State) :
    (runResult v s).mem = s.mem.writeBytes obufBase v := rfl
@[simp] theorem runResult_agenda (v : Bytes) (s : State) :
    (runResult v s).agenda = s.agenda := rfl
@[simp] theorem runResult_reply (v : Bytes) (s : State) :
    (runResult v s).reply = s.reply := rfl
@[simp] theorem runResult_draws (v : Bytes) (s : State) :
    (runResult v s).draws = s.draws := rfl

/-! ### Serving a read -/

@[simp] theorem State.serveRead_params (off : Nat) (s : State) :
    (s.serveRead off).params = s.params := rfl
@[simp] theorem State.serveRead_ie (off : Nat) (s : State) :
    (s.serveRead off).ie = s.ie := rfl
@[simp] theorem State.serveRead_done (off : Nat) (s : State) :
    (s.serveRead off).done = s.done := rfl
@[simp] theorem State.serveRead_ovr (off : Nat) (s : State) :
    (s.serveRead off).ovr = s.ovr := rfl
@[simp] theorem State.serveRead_err (off : Nat) (s : State) :
    (s.serveRead off).err = s.err := rfl
@[simp] theorem State.serveRead_pending (off : Nat) (s : State) :
    (s.serveRead off).pending = s.pending := rfl
@[simp] theorem State.serveRead_keylen (off : Nat) (s : State) :
    (s.serveRead off).keylen = s.keylen := rfl
@[simp] theorem State.serveRead_msglen (off : Nat) (s : State) :
    (s.serveRead off).msglen = s.msglen := rfl
@[simp] theorem State.serveRead_outlen (off : Nat) (s : State) :
    (s.serveRead off).outlen = s.outlen := rfl
@[simp] theorem State.serveRead_errinfo (off : Nat) (s : State) :
    (s.serveRead off).errinfo = s.errinfo := rfl
@[simp] theorem State.serveRead_ksbyte (off : Nat) (s : State) :
    (s.serveRead off).ksbyte = s.ksbyte := rfl
@[simp] theorem State.serveRead_sched (off : Nat) (s : State) :
    (s.serveRead off).sched = s.sched := rfl
@[simp] theorem State.serveRead_mem (off : Nat) (s : State) :
    (s.serveRead off).mem = s.mem := rfl
@[simp] theorem State.serveRead_agenda (off : Nat) (s : State) :
    (s.serveRead off).agenda = s.agenda := rfl
@[simp] theorem State.serveRead_reply (off : Nat) (s : State) :
    (s.serveRead off).reply = .value (s.readWord off) := rfl
@[simp] theorem State.serveRead_draws (off : Nat) (s : State) :
    (s.serveRead off).draws = s.drawsAfterRead off := rfl

/-! ### Recording a write on the bus -/

@[simp] theorem State.replyWritten_params (s : State) :
    s.replyWritten.params = s.params := rfl
@[simp] theorem State.replyWritten_ie (s : State) :
    s.replyWritten.ie = s.ie := rfl
@[simp] theorem State.replyWritten_done (s : State) :
    s.replyWritten.done = s.done := rfl
@[simp] theorem State.replyWritten_ovr (s : State) :
    s.replyWritten.ovr = s.ovr := rfl
@[simp] theorem State.replyWritten_err (s : State) :
    s.replyWritten.err = s.err := rfl
@[simp] theorem State.replyWritten_pending (s : State) :
    s.replyWritten.pending = s.pending := rfl
@[simp] theorem State.replyWritten_keylen (s : State) :
    s.replyWritten.keylen = s.keylen := rfl
@[simp] theorem State.replyWritten_msglen (s : State) :
    s.replyWritten.msglen = s.msglen := rfl
@[simp] theorem State.replyWritten_outlen (s : State) :
    s.replyWritten.outlen = s.outlen := rfl
@[simp] theorem State.replyWritten_errinfo (s : State) :
    s.replyWritten.errinfo = s.errinfo := rfl
@[simp] theorem State.replyWritten_ksbyte (s : State) :
    s.replyWritten.ksbyte = s.ksbyte := rfl
@[simp] theorem State.replyWritten_sched (s : State) :
    s.replyWritten.sched = s.sched := rfl
@[simp] theorem State.replyWritten_mem (s : State) :
    s.replyWritten.mem = s.mem := rfl
@[simp] theorem State.replyWritten_agenda (s : State) :
    s.replyWritten.agenda = s.agenda := rfl
@[simp] theorem State.replyWritten_reply (s : State) :
    s.replyWritten.reply = .written := rfl
@[simp] theorem State.replyWritten_draws (s : State) :
    s.replyWritten.draws = s.draws := rfl

/-! ### A bus error response -/

@[simp] theorem State.replyBusError_params (s : State) :
    s.replyBusError.params = s.params := rfl
@[simp] theorem State.replyBusError_ie (s : State) :
    s.replyBusError.ie = s.ie := rfl
@[simp] theorem State.replyBusError_done (s : State) :
    s.replyBusError.done = s.done := rfl
@[simp] theorem State.replyBusError_ovr (s : State) :
    s.replyBusError.ovr = s.ovr := rfl
@[simp] theorem State.replyBusError_err (s : State) :
    s.replyBusError.err = s.err := rfl
@[simp] theorem State.replyBusError_pending (s : State) :
    s.replyBusError.pending = s.pending := rfl
@[simp] theorem State.replyBusError_keylen (s : State) :
    s.replyBusError.keylen = s.keylen := rfl
@[simp] theorem State.replyBusError_msglen (s : State) :
    s.replyBusError.msglen = s.msglen := rfl
@[simp] theorem State.replyBusError_outlen (s : State) :
    s.replyBusError.outlen = s.outlen := rfl
@[simp] theorem State.replyBusError_errinfo (s : State) :
    s.replyBusError.errinfo = s.errinfo := rfl
@[simp] theorem State.replyBusError_ksbyte (s : State) :
    s.replyBusError.ksbyte = s.ksbyte := rfl
@[simp] theorem State.replyBusError_sched (s : State) :
    s.replyBusError.sched = s.sched := rfl
@[simp] theorem State.replyBusError_mem (s : State) :
    s.replyBusError.mem = s.mem := rfl
@[simp] theorem State.replyBusError_agenda (s : State) :
    s.replyBusError.agenda = s.agenda := rfl
@[simp] theorem State.replyBusError_reply (s : State) :
    s.replyBusError.reply = .busError := rfl
@[simp] theorem State.replyBusError_draws (s : State) :
    s.replyBusError.draws = s.draws := rfl

/-! ### Capturing a command word with the engine's turn next -/

@[simp] theorem State.captureNext_params (w : Word) (s : State) :
    (s.captureNext w).params = s.params := rfl
@[simp] theorem State.captureNext_ie (w : Word) (s : State) :
    (s.captureNext w).ie = s.ie := rfl
@[simp] theorem State.captureNext_done (w : Word) (s : State) :
    (s.captureNext w).done = s.done := rfl
@[simp] theorem State.captureNext_ovr (w : Word) (s : State) :
    (s.captureNext w).ovr = s.ovr := rfl
@[simp] theorem State.captureNext_err (w : Word) (s : State) :
    (s.captureNext w).err = s.err := rfl
@[simp] theorem State.captureNext_pending (w : Word) (s : State) :
    (s.captureNext w).pending = some w := rfl
@[simp] theorem State.captureNext_keylen (w : Word) (s : State) :
    (s.captureNext w).keylen = s.keylen := rfl
@[simp] theorem State.captureNext_msglen (w : Word) (s : State) :
    (s.captureNext w).msglen = s.msglen := rfl
@[simp] theorem State.captureNext_outlen (w : Word) (s : State) :
    (s.captureNext w).outlen = s.outlen := rfl
@[simp] theorem State.captureNext_errinfo (w : Word) (s : State) :
    (s.captureNext w).errinfo = s.errinfo := rfl
@[simp] theorem State.captureNext_ksbyte (w : Word) (s : State) :
    (s.captureNext w).ksbyte = s.ksbyte := rfl
@[simp] theorem State.captureNext_sched (w : Word) (s : State) :
    (s.captureNext w).sched = s.sched := rfl
@[simp] theorem State.captureNext_mem (w : Word) (s : State) :
    (s.captureNext w).mem = s.mem := rfl
@[simp] theorem State.captureNext_agenda (w : Word) (s : State) :
    (s.captureNext w).agenda = engineFirst s.agenda := rfl
@[simp] theorem State.captureNext_reply (w : Word) (s : State) :
    (s.captureNext w).reply = s.reply := rfl
@[simp] theorem State.captureNext_draws (w : Word) (s : State) :
    (s.captureNext w).draws = s.draws := rfl

/-! ### An error's ending -/

@[simp] theorem State.raise_params (pl : ErrorPlace) (e : CmdError) (len : Half) (s : State) :
    (s.raise pl e len).params = s.params := by
  cases pl <;> rfl
@[simp] theorem State.raise_ie (pl : ErrorPlace) (e : CmdError) (len : Half) (s : State) :
    (s.raise pl e len).ie = s.ie := by
  cases pl <;> rfl
@[simp] theorem State.raise_done (pl : ErrorPlace) (e : CmdError) (len : Half) (s : State) :
    (s.raise pl e len).done = true := by
  cases pl <;> rfl
@[simp] theorem State.raise_ovr (pl : ErrorPlace) (e : CmdError) (len : Half) (s : State) :
    (s.raise pl e len).ovr = s.ovr := by
  cases pl <;> rfl
@[simp] theorem State.raise_err (pl : ErrorPlace) (e : CmdError) (len : Half) (s : State) :
    (s.raise pl e len).err = e.code := by
  cases pl <;> rfl
@[simp] theorem State.raise_pending (pl : ErrorPlace) (e : CmdError) (len : Half) (s : State) :
    (s.raise pl e len).pending = none := by
  cases pl <;> rfl
@[simp] theorem State.raise_keylen (pl : ErrorPlace) (e : CmdError) (len : Half) (s : State) :
    (s.raise pl e len).keylen = s.keylen := by
  cases pl <;> rfl
@[simp] theorem State.raise_msglen (pl : ErrorPlace) (e : CmdError) (len : Half) (s : State) :
    (s.raise pl e len).msglen = s.msglen := by
  cases pl <;> rfl
@[simp] theorem State.raise_errinfo (pl : ErrorPlace) (e : CmdError) (len : Half) (s : State) :
    (s.raise pl e len).errinfo = errinfoWord s.captured len := by
  cases pl <;> rfl
@[simp] theorem State.raise_ksbyte (pl : ErrorPlace) (e : CmdError) (len : Half) (s : State) :
    (s.raise pl e len).ksbyte = s.ksbyte := by
  cases pl <;> rfl
@[simp] theorem State.raise_agenda (pl : ErrorPlace) (e : CmdError) (len : Half) (s : State) :
    (s.raise pl e len).agenda = s.agenda := by
  cases pl <;> rfl
@[simp] theorem State.raise_reply (pl : ErrorPlace) (e : CmdError) (len : Half) (s : State) :
    (s.raise pl e len).reply = s.reply := by
  cases pl <;> rfl
@[simp] theorem State.raise_draws (pl : ErrorPlace) (e : CmdError) (len : Half) (s : State) :
    (s.raise pl e len).draws = s.draws := by
  cases pl <;> rfl

/-! ### The state after power-on reset -/

@[simp] theorem State.reset_params : State.reset.params = Config.defaultParams := rfl
@[simp] theorem State.reset_ie : State.reset.ie = false := rfl
@[simp] theorem State.reset_done : State.reset.done = false := rfl
@[simp] theorem State.reset_ovr : State.reset.ovr = false := rfl
@[simp] theorem State.reset_err : State.reset.err = 0 := rfl
@[simp] theorem State.reset_pending : State.reset.pending = none := rfl
@[simp] theorem State.reset_keylen : State.reset.keylen = 0 := rfl
@[simp] theorem State.reset_msglen : State.reset.msglen = 0 := rfl
@[simp] theorem State.reset_outlen : State.reset.outlen = 0 := rfl
@[simp] theorem State.reset_errinfo : State.reset.errinfo = 0 := rfl
@[simp] theorem State.reset_ksbyte : State.reset.ksbyte = 0 := rfl
@[simp] theorem State.reset_sched : State.reset.sched = none := rfl
@[simp] theorem State.reset_mem : State.reset.mem = [] := rfl
@[simp] theorem State.reset_agenda : State.reset.agenda = [] := rfl
@[simp] theorem State.reset_reply : State.reset.reply = .none := rfl
@[simp] theorem State.reset_draws : State.reset.draws = 0 := rfl

end Sys2Proof.Machine
end

