-- ==== Sys2Proof/Laws/Commands.lean ====
section
/-! SUPPORT. What the shared operations of the commands can do, said once each; every command answers a
next state. -/

namespace Sys2Proof.Machine

/-! ## An error's ending (60_exceptions.md R410) -/

@[simp] theorem State.raise_mem (pl : ErrorPlace) (e : CmdError) (len : Half) (s : State) :
    (s.raise pl e len).mem = (s.errorEffect pl).mem := rfl
@[simp] theorem State.raise_outlen (pl : ErrorPlace) (e : CmdError) (len : Half) (s : State) :
    (s.raise pl e len).outlen = (s.errorEffect pl).outlen := rfl
@[simp] theorem State.raise_sched (pl : ErrorPlace) (e : CmdError) (len : Half) (s : State) :
    (s.raise pl e len).sched = (s.errorEffect pl).sched := rfl

@[simp] theorem State.errorEffect_decoding (s : State) : s.errorEffect .decoding = s := rfl
@[simp] theorem State.errorEffect_expand (s : State) : s.errorEffect .expand = s.setSched none := rfl
@[simp] theorem State.errorEffect_keyed (s : State) : s.errorEffect .keyed = s := rfl
@[simp] theorem State.errorEffect_padding (s : State) : s.errorEffect .padding = s.clearOutput := rfl
@[simp] theorem State.errorEffect_run (s : State) :
    s.errorEffect .run = s.clearOutput.setSched none := rfl

/-- An error never changes a byte outside OBUF (60_exceptions.md R410). -/
theorem State.read_errorEffect (pl : ErrorPlace) (s : State) {a : Nat}
    (h : ¬(obufBase ≤ a ∧ a < obufBase + s.params.bufBytes)) :
    (s.errorEffect pl).mem.read a = s.mem.read a := by
  cases pl <;> simp [State.errorEffect, Memory.read_zeroFill, h]

/-- An error's ending keeps the canonical form of memory. -/
theorem State.wf_errorEffect (pl : ErrorPlace) {s : State} (h : s.mem.wf = true) :
    (s.errorEffect pl).mem.wf = true := by
  cases pl <;> simp [State.errorEffect, Memory.wf_zeroFill, h]

/-- The fields of ERRINFO (10_state.md R46). -/
theorem errinfoWord_fields (w : Word) (len : Half) :
    (errinfoWord w len).extractLsb' 0 4 = w.extractLsb' 8 4 ∧
      (errinfoWord w len).extractLsb' 4 4 = 0 ∧
      (errinfoWord w len).extractLsb' 8 8 = w.extractLsb' 0 8 ∧
      (errinfoWord w len).extractLsb' 16 16 = len := by
  refine ⟨?_, ?_, ?_, ?_⟩ <;>
    · ext i hi
      simp only [errinfoWord, BitVec.getElem_extractLsb', BitVec.getLsbD_append]
      interval_cases i <;> simp [BitVec.getLsbD_eq_getElem]

/-! ## The commands -/

/-- Everything an EXPAND can do (41_key_schedule.md R150). -/
theorem expandCommand_cases {c : Cipher} {s t : State} (h : expandCommand c s = .next t) :
    (keyLengthOk c s.keylen.toNat = true ∧ t = (s.setSched (some (expandKey c s.key))).succeed) ∨
      (keyLengthOk c s.keylen.toNat = false ∧
        t = s.raise .expand .invalidKeyLength s.keylenInfo) := by
  unfold expandCommand at h
  split at h <;> simp_all

/-- Everything a PAD can do (40_block_utils.md R133). -/
theorem execPad_cases {c : BlockCipher} {s t : State} (h : execPad c s = .next t) :
    (s.tooLong = true ∧ t = s.raise .padding .lengthError s.msglen) ∨
      (s.tooLong = false ∧ t = (s.writeOutput (pad (blockSize c) s.message)).succeed) := by
  unfold execPad at h
  split at h <;> simp_all

/-- Everything an UNPAD can do (40_block_utils.md R134). -/
theorem execUnpad_cases {c : BlockCipher} {s t : State} (h : execUnpad c s = .next t) :
    (s.tooLong = true ∧ t = s.raise .padding .lengthError s.msglen) ∨
      (s.tooLong = false ∧ unpad (blockSize c) s.message = none ∧
        t = s.raise .padding .paddingError s.msglen) ∨
      (s.tooLong = false ∧ ∃ d, unpad (blockSize c) s.message = some d ∧
        t = (s.writeOutput d).succeed) := by
  unfold execUnpad at h
  split at h
  · simp_all
  · split at h <;> simp_all

/-- Everything a RUN of a block cipher can do (48_pipeline.md R330). -/
theorem execRun_cases {c : BlockCipher} {d : Dir} {m : Chain} {iv : Bool} {s t : State}
    (h : execRun c d m iv s = .next t) :
    (∃ e len, t = s.raise .run e len) ∨
      (s.tooLong = false ∧ ¬(m = .cbc ∧ iv = false) ∧ keyLengthOk c.cipher s.keylen.toNat = true ∧
        ∃ out, runMessage c d m (expandBlock c s.key) (s.iv (blockSize c)) s.message = some out ∧
          t = runResult out s) := by
  unfold execRun at h
  split at h
  · exact .inl ⟨_, _, by simpa using h.symm⟩
  split at h
  · exact .inl ⟨_, _, by simpa using h.symm⟩
  split at h
  · exact .inl ⟨_, _, by simpa using h.symm⟩
  split at h
  · exact .inl ⟨_, _, by simpa using h.symm⟩
  · exact .inr ⟨by simp_all, by simp_all, by simp_all, _, ‹_›, by simpa using h.symm⟩

/-- Everything a RUN of ARC4 can do (48_pipeline.md R336). -/
theorem execRunArc4_cases {d : Dir} {s t : State} (h : execRunArc4 d s = .next t) :
    (∃ e len, t = s.raise .run e len) ∨
      (s.tooLong = false ∧ keyLengthOk .arc4 s.keylen.toNat = true ∧
        t = runResult (arc4Crypt s.key s.message) s) := by
  unfold execRunArc4 at h
  split at h
  · exact .inl ⟨_, _, by simpa using h.symm⟩
  split at h
  · exact .inl ⟨_, _, by simpa using h.symm⟩
  · exact .inr ⟨by simp_all, by simp_all, by simpa using h.symm⟩

/-- Everything a single-block command or KSNEXT can do: it fails with `NotKeyed`, or writes its result
block into DATA, or takes a keystream step. -/
def KeyedOutcome (s t : State) : Prop :=
  t = s.raise .keyed .notKeyed 0 ∨
    (∃ v : Bytes, v.length ≤ 16 ∧ t = (s.writeData v).succeed) ∨
    (∃ st, s.sched = some (.arc4 st) ∧
      t = ((s.setKsbyte (arc4Out (arc4Next st))).setSched (some (.arc4 (arc4Next st)))).succeed)

theorem notKeyed_cases {s t : State} (h : notKeyed s = .next t) :
    t = s.raise .keyed .notKeyed 0 := by
  simpa [notKeyed] using h.symm

theorem blockResult_cases {v : Bytes} {s t : State} (h : blockResult v s = .next t) :
    t = (s.writeData v).succeed := by
  simpa [blockResult] using h.symm

theorem execEncbAes_cases {s t : State} (h : execEncbAes s = .next t) : KeyedOutcome s t := by
  unfold execEncbAes at h
  split at h
  · exact .inr (.inl ⟨_, by simp, blockResult_cases h⟩)
  · exact .inl (notKeyed_cases h)

theorem execDecbAes_cases {s t : State} (h : execDecbAes s = .next t) : KeyedOutcome s t := by
  unfold execDecbAes at h
  split at h
  · exact .inr (.inl ⟨_, by simp, blockResult_cases h⟩)
  · exact .inl (notKeyed_cases h)

theorem execEncbRc6_cases {s t : State} (h : execEncbRc6 s = .next t) : KeyedOutcome s t := by
  unfold execEncbRc6 at h
  split at h
  · exact .inr (.inl ⟨_, by simp, blockResult_cases h⟩)
  · exact .inl (notKeyed_cases h)

theorem execDecbRc6_cases {s t : State} (h : execDecbRc6 s = .next t) : KeyedOutcome s t := by
  unfold execDecbRc6 at h
  split at h
  · exact .inr (.inl ⟨_, by simp, blockResult_cases h⟩)
  · exact .inl (notKeyed_cases h)

theorem execEncbBf_cases {s t : State} (h : execEncbBf s = .next t) : KeyedOutcome s t := by
  unfold execEncbBf at h
  split at h
  · exact .inr (.inl ⟨_, by simp, blockResult_cases h⟩)
  · exact .inl (notKeyed_cases h)

theorem execDecbBf_cases {s t : State} (h : execDecbBf s = .next t) : KeyedOutcome s t := by
  unfold execDecbBf at h
  split at h
  · exact .inr (.inl ⟨_, by simp, blockResult_cases h⟩)
  · exact .inl (notKeyed_cases h)

theorem execEncbIdea_cases {s t : State} (h : execEncbIdea s = .next t) : KeyedOutcome s t := by
  unfold execEncbIdea at h
  split at h
  · exact .inr (.inl ⟨_, by simp, blockResult_cases h⟩)
  · exact .inl (notKeyed_cases h)

theorem execDecbIdea_cases {s t : State} (h : execDecbIdea s = .next t) : KeyedOutcome s t := by
  unfold execDecbIdea at h
  split at h
  · exact .inr (.inl ⟨_, by simp, blockResult_cases h⟩)
  · exact .inl (notKeyed_cases h)

theorem execKsnext_cases {s t : State} (h : execKsnext s = .next t) : KeyedOutcome s t := by
  unfold execKsnext at h
  split at h
  · exact .inr (.inr ⟨_, ‹_›, by simpa using h.symm⟩)
  · exact .inl (notKeyed_cases h)

/-- Every command answers a next state: the core never stops because of an error (60_exceptions.md
R413). -/
theorem exec_answers_next (i : Instr) (s : State) : ∃ t, exec i s = .next t := by
  cases i <;>
    simp only [exec, execExpandAes, execExpandRc6, execExpandBf, execExpandIdea, execExpandArc4,
      expandCommand, execEncbAes, execEncbRc6, execEncbBf, execEncbIdea, execDecbAes, execDecbRc6,
      execDecbBf, execDecbIdea, execKsnext, execPad, execUnpad, execRun, execRunArc4, execClear,
      blockResult, notKeyed] <;>
    repeat' split
  all_goals exact ⟨_, rfl⟩

end Sys2Proof.Machine
end

