-- ==== Sys2Proof/Laws/PerInstr.lean ====
section
/-! SUPPORT. Laws that hold of every instruction, one lemma per constructor. The family RowPattern says
that an instruction's word has the pattern of its row of 30_encoding.md R105 and the fields of a
well-formed command. -/

namespace Sys2Proof.Laws.RowPattern

/-- The word of the instruction matches its row's pattern, and its fields spell a command. -/
def Statement (i : Instr) : Prop :=
  encode i &&& rowMask i = rowMatch i ∧ (fieldsOf (encode i)).wellFormed = true

theorem expandAes : Statement .expandAes := ⟨rfl, rfl⟩
theorem expandRc6 : Statement .expandRc6 := ⟨rfl, rfl⟩
theorem expandBf : Statement .expandBf := ⟨rfl, rfl⟩
theorem expandIdea : Statement .expandIdea := ⟨rfl, rfl⟩
theorem expandArc4 : Statement .expandArc4 := ⟨rfl, rfl⟩
theorem encbAes : Statement .encbAes := ⟨rfl, rfl⟩
theorem encbRc6 : Statement .encbRc6 := ⟨rfl, rfl⟩
theorem encbBf : Statement .encbBf := ⟨rfl, rfl⟩
theorem encbIdea : Statement .encbIdea := ⟨rfl, rfl⟩
theorem decbAes : Statement .decbAes := ⟨rfl, rfl⟩
theorem decbRc6 : Statement .decbRc6 := ⟨rfl, rfl⟩
theorem decbBf : Statement .decbBf := ⟨rfl, rfl⟩
theorem decbIdea : Statement .decbIdea := ⟨rfl, rfl⟩
theorem ksnext : Statement .ksnext := ⟨rfl, rfl⟩
theorem pad (c : BlockCipher) : Statement (.pad c) := by
  cases c <;> exact ⟨rfl, rfl⟩
theorem unpad (c : BlockCipher) : Statement (.unpad c) := by
  cases c <;> exact ⟨rfl, rfl⟩
theorem run (c : BlockCipher) (d : Dir) (m : Chain) (iv : Bool) : Statement (.run c d m iv) := by
  cases c <;> cases d <;> cases m <;> cases iv <;> exact ⟨rfl, rfl⟩
theorem runArc4 (d : Dir) : Statement (.runArc4 d) := by
  cases d <;> exact ⟨rfl, rfl⟩
theorem clear : Statement .clear := ⟨rfl, rfl⟩

end Sys2Proof.Laws.RowPattern
end

