-- ==== Sys2Proof/Laws/Steps.lean ====
section
/-! SUPPORT. What one step can do, said once. -/

namespace Sys2Proof.Machine

/-- The engine's turn with a command in flight. -/
theorem engineTurn_pending {s : State} {w : Word} (h : s.pending = some w) :
    engineTurn s = runDecoded (decode w) s := by simp [engineTurn, h]

/-- The engine's turn with no command in flight (60_exceptions.md R445). -/
theorem engineTurn_idle {s : State} (h : s.pending = none) : engineTurn s = .next s := by
  simp [engineTurn, h]

/-- Everything the engine's turn can do (10_state.md R38, 30_encoding.md R104). -/
theorem engineTurn_cases {s t : State} (h : engineTurn s = .next t) :
    (s.pending = none ∧ t = s) ∨
      (∃ w i, s.pending = some w ∧ decode w = .cmd i ∧ exec i s = .next t) ∨
      (∃ w, s.pending = some w ∧ decode w = .illegal ∧ t = s.raise .decoding .illegalCommand 0) ∨
      (∃ w, s.pending = some w ∧ decode w = .unknown ∧ t = s.raise .decoding .unknownCipher 0) := by
  cases hp : s.pending with
  | none => rw [engineTurn_idle hp] at h; simp_all
  | some w =>
    rw [engineTurn_pending hp] at h
    cases hd : decode w with
    | cmd i => rw [hd] at h; exact .inr (.inl ⟨w, i, rfl, hd, h⟩)
    | illegal => rw [hd] at h; exact .inr (.inr (.inl ⟨w, rfl, hd, by simpa [runDecoded] using h.symm⟩))
    | unknown => rw [hd] at h; exact .inr (.inr (.inr ⟨w, rfl, hd, by simpa [runDecoded] using h.symm⟩))

/-- The engine's turn always answers a next state. -/
theorem engineTurn_answers_next (s : State) : ∃ t, engineTurn s = .next t := by
  cases hp : s.pending with
  | none => exact ⟨s, engineTurn_idle hp⟩
  | some w =>
    rw [engineTurn_pending hp]
    cases decode w with
    | cmd i => exact exec_answers_next i s
    | illegal => exact ⟨_, rfl⟩
    | unknown => exact ⟨_, rfl⟩

/-- Everything the serving of an access can do (20_memory.md R73). -/
theorem serve_cases (a : HostAccess) (s : State) :
    (a.wellFormed s.params = true ∧ serve a s = s.perform a) ∨
      (a.wellFormed s.params = false ∧ serve a s = s.replyBusError) := by
  cases h : a.wellFormed s.params <;> simp [serve, h]

/-- An access at the address of an offset is performed when it is 32 bits wide, aligned and inside the
window (20_memory.md R73). -/
theorem serve_read {p : Params} {off : Nat} {s : State} (hp : s.params = p) (h4 : off % 4 = 0)
    (hlt : off < 0x30000) : serve (.read 32 (p.base + off)) s = s.serveRead off := by
  subst hp
  simp [serve, State.perform, HostAccess.wellFormed, HostAccess.widthOk, HostAccess.alignedOk,
    HostAccess.insideOk, HostAccess.off, HostAccess.addr, HostAccess.width, h4, hlt]

/-- The same for a write. -/
theorem serve_write {p : Params} {off : Nat} {v : Word} {s : State} (hp : s.params = p)
    (h4 : off % 4 = 0) (hlt : off < 0x30000) :
    serve (.write 32 (p.base + off) v) s = (s.writeWord off v).replyWritten := by
  subst hp
  simp [serve, State.perform, HostAccess.wellFormed, HostAccess.widthOk, HostAccess.alignedOk,
    HostAccess.insideOk, HostAccess.off, HostAccess.addr, HostAccess.width, h4, hlt]

/-- Everything a step can do (20_memory.md R81): a turn of the agenda, or with none left the engine's. -/
theorem step_cases {s t : State} (h : step s = .next t) :
    (s.agenda = [] ∧ engineTurn s = .next t) ∨
      (∃ rest, s.agenda = .engine :: rest ∧ engineTurn (s.setAgenda rest) = .next t) ∨
      (∃ rest, s.agenda = .powerOn :: rest ∧ t = (s.setAgenda rest).resetCore) ∨
      (∃ a rest, s.agenda = .host a :: rest ∧ t = serve a (s.setAgenda rest)) := by
  unfold step nextTurn at h
  split at h
  · exact .inl ⟨‹_›, h⟩
  · rename_i u rest hu
    cases u with
    | host a => exact .inr (.inr (.inr ⟨a, rest, hu, by simpa [takeTurn] using h.symm⟩))
    | engine => exact .inr (.inl ⟨rest, hu, h⟩)
    | powerOn => exact .inr (.inr (.inl ⟨rest, hu, by simpa [takeTurn] using h.symm⟩))

/-- Every step answers a next state: the machine never stops. -/
theorem step_answers_next (s : State) : ∃ t, step s = .next t := by
  unfold step nextTurn
  split
  · exact engineTurn_answers_next s
  · rename_i u rest _
    cases u with
    | host a => exact ⟨_, rfl⟩
    | engine => exact engineTurn_answers_next _
    | powerOn => exact ⟨_, rfl⟩

/-- Everything a write can do, by region (10_state.md R31 to R52). -/
theorem writeWord_cases (off : Nat) (v : Word) (s : State) :
    s.writeWord off v = s ∨
      (regionOf s.params off = .ctrl ∧ s.writeWord off v = s.writeCtrl v) ∨
      (regionOf s.params off = .status ∧ s.writeWord off v = s.writeStatus v) ∨
      (s.busy = true ∧ s.writeWord off v = s.dropWrite) ∨
      (s.busy = false ∧
        ((regionOf s.params off = .cmd ∧ s.writeWord off v = s.accept v) ∨
          (regionOf s.params off = .keylen ∧ s.writeWord off v = s.setKeylen (v.setWidth 9)) ∨
          (regionOf s.params off = .msglen ∧ s.writeWord off v = s.setMsglen (v.setWidth 16)) ∨
          (regionOf s.params off = .operandBytes ∧
            s.writeWord off v = s.setMem (s.mem.writeBytes off (le32Bytes v))))) := by
  unfold State.writeWord
  cases hr : regionOf s.params off <;> cases hb : s.busy <;> simp [State.ifIdle, hb]

end Sys2Proof.Machine
end

