-- ==== Sys2Proof/Tests/Slice0.lean ====
section
/-! SUPPORT. Tests of the model on fixed values taken from the spec (95_test_vectors.md and the tables of
the rules named), and for every statement with hypotheses a concrete case that meets them. -/

open Sys2Proof Sys2Proof.Machine

namespace Sys2Proof.Tests

-- One theorem after the other: the checks by evaluation are many, and each takes a thread of its own.
set_option Elab.async false

/-! ## Well-formedness: one ill-formed term for each check -/

/-- The fields of EXPAND AES, on which each field test below changes one thing. -/
def expandFields : CmdFields := { op := 1, ciph := 0, dir := 0, chain := 0, ivp := 0, rsv := 0 }

theorem test_wf_expand : expandFields.wellFormed = true := by decide
theorem test_wf_rsv : ({ expandFields with rsv := 1 } : CmdFields).rsvOk = false ∧
    ({ expandFields with rsv := 1 } : CmdFields).wellFormed = false := by decide
theorem test_wf_op : ({ expandFields with op := 9 } : CmdFields).opOk = false ∧
    ({ expandFields with op := 9 } : CmdFields).wellFormed = false := by decide
theorem test_wf_clear : ({ expandFields with op := 8, ciph := 1 } : CmdFields).clearOk = false ∧
    ({ expandFields with op := 8, ciph := 1 } : CmdFields).wellFormed = false := by decide
theorem test_wf_modifiers : ({ expandFields with dir := 1 } : CmdFields).modifiersOk = false ∧
    ({ expandFields with dir := 1 } : CmdFields).wellFormed = false := by decide
theorem test_wf_cipher : ({ expandFields with ciph := 5 } : CmdFields).cipherOk = false ∧
    ({ expandFields with ciph := 5 } : CmdFields).wellFormed = false := by decide
theorem test_wf_pairing : ({ expandFields with op := 2, ciph := 4 } : CmdFields).pairingOk = false ∧
    ({ expandFields with op := 2, ciph := 4 } : CmdFields).wellFormed = false := by decide
theorem test_wf_chain : ({ expandFields with op := 7, chain := 2 } : CmdFields).chainOk = false ∧
    ({ expandFields with op := 7, chain := 2 } : CmdFields).wellFormed = false := by decide
theorem test_wf_width : (HostAccess.read 16 0).widthOk = false ∧
    (HostAccess.read 16 0).wellFormed Config.defaultParams = false := by decide
theorem test_wf_aligned : (HostAccess.read 32 2).alignedOk Config.defaultParams = false ∧
    (HostAccess.read 32 2).wellFormed Config.defaultParams = false := by decide
theorem test_wf_inside : (HostAccess.read 32 0x30000).insideOk Config.defaultParams = false ∧
    (HostAccess.read 32 0x30000).wellFormed Config.defaultParams = false ∧
    (HostAccess.read 32 0x2FFFC).wellFormed Config.defaultParams = true := by decide
theorem test_wf_below : (HostAccess.read 32 0xFFC).insideOk ⟨0x1000, 4096, true⟩ = false ∧
    (HostAccess.read 32 0xFFC).wellFormed ⟨0x1000, 4096, true⟩ = false ∧
    (HostAccess.read 32 0x1000).wellFormed ⟨0x1000, 4096, true⟩ = true := by decide
theorem test_wf_multiple : (Params.mk 0 24 true).multipleOk = false ∧
    (Params.mk 0 24 true).wellFormed = false := by decide
theorem test_wf_range : (Params.mk 0 0 true).rangeOk = false ∧
    (Params.mk 0 32784 true).rangeOk = false ∧ (Params.mk 0 32768 true).wellFormed = true := by decide

/-! ## Decoding: the word of every constructor, written out from the fields OP, CIPH, DIR, CHAIN and IVP
of 30_encoding.md R100 (the rows of R105, the examples of R110) -/

theorem test_decode_expandAes : decode 0x00000001 = .cmd .expandAes := by decide
theorem test_decode_expandRc6 : decode 0x00000101 = .cmd .expandRc6 := by decide
theorem test_decode_expandBf : decode 0x00000201 = .cmd .expandBf := by decide
theorem test_decode_expandIdea : decode 0x00000301 = .cmd .expandIdea := by decide
theorem test_decode_expandArc4 : decode 0x00000401 = .cmd .expandArc4 := by decide
theorem test_decode_encbAes : decode 0x00000002 = .cmd .encbAes := by decide
theorem test_decode_encbRc6 : decode 0x00000102 = .cmd .encbRc6 := by decide
theorem test_decode_encbBf : decode 0x00000202 = .cmd .encbBf := by decide
theorem test_decode_encbIdea : decode 0x00000302 = .cmd .encbIdea := by decide
theorem test_decode_decbAes : decode 0x00000003 = .cmd .decbAes := by decide
theorem test_decode_decbRc6 : decode 0x00000103 = .cmd .decbRc6 := by decide
theorem test_decode_decbBf : decode 0x00000203 = .cmd .decbBf := by decide
theorem test_decode_decbIdea : decode 0x00000303 = .cmd .decbIdea := by decide
theorem test_decode_ksnext : decode 0x00000404 = .cmd .ksnext := by decide
theorem test_decode_pad : decode 0x00000205 = .cmd (.pad .bf) := by decide
theorem test_decode_unpad : decode 0x00000306 = .cmd (.unpad .idea) := by decide
theorem test_decode_run : decode 0x0000A107 = .cmd (.run .rc6 .enc .cbc true) := by decide
theorem test_decode_run_dec : decode 0x00001207 = .cmd (.run .bf .dec .ecb false) := by decide
theorem test_decode_runArc4 : decode 0x00001407 = .cmd (.runArc4 .dec) := by decide
theorem test_decode_clear : decode 0x00000008 = .cmd .clear := by decide

/-- The rejected words of 95_test_vectors.md 3.9. -/
theorem test_decode_illegal : ([0x00000000, 0x00000009, 0x000000FF, 0x00010001, 0x80000001, 0x00000108,
    0x00001008, 0x00001001, 0x00002001, 0x00008002, 0x00000004, 0x00000204, 0x00000402, 0x00000403,
    0x00000405, 0x00000406, 0x00004007, 0x00006007, 0x00002407, 0x00008407] : List Word).map decode =
    List.replicate 20 .illegal := by decide +kernel
theorem test_decode_unknown : ([0x00000504, 0x00000507, 0x00000F01] : List Word).map decode =
    List.replicate 3 .unknown := by decide +kernel
theorem test_decodeTableWord : decodeTableWord 32 0x0000B007 = some (.run .aes .dec .cbc true) ∧
    decodeTableWord 32 0x00000507 = none := by decide

/-! ## Helpers for the step tests -/

/-- The value of a next state. -/
def after {α : Type} (f : State → α) (o : Host.Outcome State Fault Refusal) : Option α :=
  match o with
  | .next t => some (f t)
  | .fault _ => none
  | .refused _ => none

/-- What the engine's step on the word `w` leaves, in the state `s`. -/
def ran {α : Type} (f : State → α) (w : Nat) (s : State) : Option α :=
  after f (step (s.withFetchWord 32 w))

/-- STATUS and ERRINFO. -/
def codes (t : State) : Word × Word := (t.statusWord, t.errinfo)

/-- The reset state with a byte string at an address. -/
def holding (a : Nat) (b : Bytes) : State := { State.reset with mem := Memory.writeBytes [] a b }

/-- The reset state with a message in IBUF (95_test_vectors.md 3.7). -/
def message (b : Bytes) : State := { holding ibufBase b with msglen := BitVec.ofNat 16 b.length }

/-- The reset state with KEYLEN `n` (95_test_vectors.md 3.1). -/
def keyLen (n : BitVec 9) : State := { State.reset with keylen := n }

/-- The reset state with a schedule in the store and a block in DATA. -/
def keyedBlock (k : Schedule) (b : Bytes) : State := { holding dataBase b with sched := some k }

/-- A platform that puts the window at another address than 0. -/
def platform : Params := { Config.defaultParams with base := 0x40000000 }

/-- The reset state on that platform with one turn to come. -/
def accessing (x : Turn) : State := { State.reset with params := platform, agenda := [x] }

/-- The same with a command in flight. -/
def busyAccessing (x : Turn) : State := { accessing x with pending := some 8 }

/-! ## The bus and the step -/

/-- A step from reset with the word placed runs the instruction: RUN AES, DEC, ECB with KEYLEN 0 is
`InvalidKeyLength` (60_exceptions.md R402, R420). -/
theorem test_step_runs : ran codes 0x00001007 State.reset = some (0x00000012, 0x00000700) := by
  decide +kernel
theorem test_step_illegal : ran codes 0x00004007 State.reset = some (0x00000072, 0x00000700) := by
  decide +kernel
theorem test_step_unknown : ran codes 0x00000F01 State.reset = some (0x00000022, 0x0000010F) := by
  decide +kernel
/-- 95_test_vectors.md 3.10, the registers' width corners of 3.1. -/
theorem test_read_id : after (·.reply) (step (accessing (readAt platform 0))) =
    some (.value 0x50594301) := by decide +kernel
theorem test_past_window : after (·.reply) (step (accessing (readAt platform 0x30000))) =
    some .busError ∧ after (·.reply) (step (accessing (.host (.read 32 0x3FFFFFFC)))) =
    some .busError := by decide +kernel
theorem test_misaligned : after (·.reply) (step (accessing (readAt platform 2))) = some .busError := by
  decide +kernel
theorem test_keylen_width : after (·.keylen) (step (accessing (writeAt platform 0x010 0xFFFFFFFF))) =
    some 0x1FF := by decide +kernel
theorem test_msglen_width : after (·.msglen) (step (accessing (writeAt platform 0x014 0x00011005))) =
    some 0x1005 := by decide +kernel
/-- 95_test_vectors.md 3.10: writes while busy are dropped, STATUS reads BUSY and OVR. -/
theorem test_busy_write : after (fun t => (t.statusWord, t.mem)) (step (busyAccessing (writeAt platform 0x040 0x12345678))) = some (0x00000005, []) := by decide +kernel
theorem test_data_bytes : after (·.mem) (step (accessing (writeAt platform 0x040 0x33221100))) =
    some [(0x041, 0x11), (0x042, 0x22), (0x043, 0x33)] := by decide +kernel

/-! ## EXPAND: 95_test_vectors.md 3.1 -/

theorem test_expandAes : ran codes 0x001 (keyLen 16) = some (0x00000802, 0) := by decide +kernel
theorem test_expandAes_short : ran codes 0x001 (keyLen 15) = some (0x00000012, 0x000F0100) := by
  decide +kernel
theorem test_expandRc6 : ran codes 0x101 (keyLen 32) = some (0x00000902, 0) := by decide +kernel
theorem test_expandRc6_long : ran codes 0x101 (keyLen 33) = some (0x00000012, 0x00210101) := by
  decide +kernel
theorem test_expandBf : ran codes 0x201 (keyLen 56) = some (0x00000A02, 0) := by decide +kernel
theorem test_expandBf_short : ran codes 0x201 (keyLen 3) = some (0x00000012, 0x00030102) := by
  decide +kernel
theorem test_expandIdea : ran codes 0x301 (keyLen 16) = some (0x00000B02, 0) := by decide +kernel
theorem test_expandIdea_long : ran codes 0x301 (keyLen 17) = some (0x00000012, 0x00110103) := by
  decide +kernel
theorem test_expandArc4 : ran codes 0x401 (keyLen 256) = some (0x00000C02, 0) := by decide +kernel
theorem test_expandArc4_long : ran codes 0x401 (keyLen 511) = some (0x00000012, 0x01FF0104) := by
  decide +kernel

/-! ## ENCB, DECB and KSNEXT -/

/-- The key and the plaintext of FIPS-197 C.1 (95_test_vectors.md 2.1). -/
def aesSchedule : Schedule := expandKey .aes ((List.range 16).map (BitVec.ofNat 8))
def aesPlain : Bytes := (List.range 16).map fun n => BitVec.ofNat 8 (17 * n)
def aesCipherText : Bytes := [0x69, 0xC4, 0xE0, 0xD8, 0x6A, 0x7B, 0x04, 0x30, 0xD8, 0xCD, 0xB7, 0x80,
  0x70, 0xB4, 0xC5, 0x5A]

theorem test_encbAes : ran (·.dataBlock 16) 0x002 (keyedBlock aesSchedule aesPlain) =
    some aesCipherText := by decide +kernel
theorem test_decbAes : ran (·.dataBlock 16) 0x003 (keyedBlock aesSchedule aesCipherText) =
    some aesPlain := by decide +kernel

/-- RC6 under the zero key (95_test_vectors.md 2.2, 3.3). -/
def rc6Schedule : Schedule := expandKey .rc6 (rep 0 16)

theorem test_encbRc6 : ran (·.dataBlock 16) 0x102 (keyedBlock rc6Schedule (rep 0 16)) =
    some [0x8F, 0xC3, 0xA5, 0x36, 0x56, 0xB1, 0xF7, 0x78, 0xC1, 0x29, 0xDF, 0x4E, 0x98, 0x48, 0xA4,
      0x1E] := by decide +kernel
theorem test_decbRc6 : ran (·.dataBlock 16) 0x103 (keyedBlock rc6Schedule (rep 0 16)) =
    some [0xA1, 0xF2, 0x78, 0x9E, 0xFC, 0x34, 0x4F, 0xC4, 0x26, 0xBC, 0xC5, 0xEE, 0x74, 0x62, 0xFF,
      0x59] := by decide +kernel

/-- Blowfish tables of zeros but for P[16] = 1 and P[17] = 2. By 45_blowfish.md R254 the rounds then only
exchange the halves, the last exchange is undone, and the halves leave with P[16] and P[17] on them:
worked out by hand. -/
def bfSchedule : Schedule :=
  .block (.bf ⟨List.replicate 16 0 ++ [1, 2], List.replicate 256 0, List.replicate 256 0,
    List.replicate 256 0, List.replicate 256 0⟩)

theorem test_encbBf : ran (·.dataBlock 16) 0x202 (keyedBlock bfSchedule
    [0x11, 0x11, 0x11, 0x11, 0x22, 0x22, 0x22, 0x20, 0xAA]) =
    some [0x22, 0x22, 0x22, 0x22, 0x11, 0x11, 0x11, 0x10, 0xAA, 0, 0, 0, 0, 0, 0, 0] := by
  decide +kernel
theorem test_decbBf : ran (·.dataBlock 8) 0x203 (keyedBlock bfSchedule
    [0x22, 0x22, 0x22, 0x22, 0x11, 0x11, 0x11, 0x10]) =
    some [0x11, 0x11, 0x11, 0x11, 0x22, 0x22, 0x22, 0x20] := by decide +kernel
/-- The spot values of 95_test_vectors.md 2.3. -/
theorem test_bfTables : bfInit.p.getD 0 0 = 0x243F6A88 ∧ bfInit.p.getD 17 0 = 0x8979FB1B ∧
    bfInit.s0.getD 0 0 = 0xD1310BA6 ∧ bfInit.s3.getD 255 0 = 0x3AC372E6 := by decide +kernel

/-- The reference vector of IDEA (95_test_vectors.md 2.4). -/
def ideaSchedule : Schedule := expandKey .idea [0, 1, 0, 2, 0, 3, 0, 4, 0, 5, 0, 6, 0, 7, 0, 8]

theorem test_encbIdea : ran (·.dataBlock 8) 0x302 (keyedBlock ideaSchedule [0, 0, 0, 1, 0, 2, 0, 3]) =
    some [0x11, 0xFB, 0xED, 0x2B, 0x01, 0x98, 0x6D, 0xE5] := by decide +kernel
theorem test_decbIdea : ran (·.dataBlock 8) 0x303 (keyedBlock ideaSchedule
    [0x11, 0xFB, 0xED, 0x2B, 0x01, 0x98, 0x6D, 0xE5]) = some [0, 0, 0, 1, 0, 2, 0, 3] := by
  decide +kernel

/-- KSNEXT on the identity table, by hand from 47_arc4.md R313: i = 1, j = 1, S[1] + S[1] = 2. -/
theorem test_ksnext : ran (fun t => (t.ksbyte, t.statusWord)) 0x404
    (keyedBlock (.arc4 ⟨arc4Identity, 0, 0⟩) []) = some (2, 0x00000C02) := by decide +kernel
/-- The next step by hand: i = 2, j = 3, the two entries are exchanged, S[3 + 2] = 5. -/
theorem test_ksnext_swap : ran (fun t => t.ksbyte) 0x404
    (keyedBlock (.arc4 ⟨arc4Identity, 1, 1⟩) []) = some 5 := by decide +kernel
theorem test_ksnext_unkeyed : ran codes 0x404 State.reset = some (0x00000082, 0x00000404) := by
  decide +kernel

/-! ## PAD, UNPAD, RUN and CLEAR: 95_test_vectors.md 3.7, 3.8 and 3.10 -/

theorem test_pad : ran (fun t => (t.output, t.outlen)) 0x005
    (message ((List.range 13).map (BitVec.ofNat 8))) =
    some ((List.range 13).map (BitVec.ofNat 8) ++ [3, 3, 3], 16) := by decide +kernel
theorem test_pad_whole : ran (fun t => t.outlen) 0x205 (message (rep 0 8)) = some 16 := by
  decide +kernel
theorem test_unpad : ran (·.output) 0x206 (message [0x41, 0x42, 0x43, 5, 5, 5, 5, 5]) =
    some [0x41, 0x42, 0x43] := by decide +kernel
theorem test_unpad_bad : ran codes 0x206 (message [0x41, 0x42, 0x43, 0x44, 0x45, 3, 2, 3]) =
    some (0x00000032, 0x00080602) := by decide +kernel

/-- The start state of 95_test_vectors.md 3.8 with the message "abc". -/
def runStart : State :=
  { message [0x61, 0x62, 0x63] with
    keylen := 16
    mem := (Memory.writeBytes (Memory.writeBytes (Memory.writeBytes [] ivBase
      [15, 14, 13, 12, 11, 10, 9, 8, 7, 6, 5, 4, 3, 2, 1, 0]) keyBase
      ((List.range 16).map (BitVec.ofNat 8))) ibufBase [0x61, 0x62, 0x63]) }

theorem test_run : ran (fun t => (t.output, t.statusWord)) 0xA307 runStart =
    some ([0x9F, 0x4C, 0x29, 0x5C, 0x51, 0x39, 0xEB, 0x0D], 0x00000002) := by decide +kernel
theorem test_run_noIV : ran codes 0x2007 (keyLen 5) = some (0x00000052, 0x00000700) := by
  decide +kernel
theorem test_runArc4_empty : ran (fun t => (t.outlen, t.statusWord)) 0x407 (keyLen 3) =
    some (0, 0x00000002) := by decide +kernel
theorem test_runArc4_noKey : ran codes 0x1407 State.reset = some (0x00000012, 0x00000704) := by
  decide +kernel
theorem test_clear : ran (fun t => (t.mem, t.keylen, t.statusWord)) 0x008
    { holding keyBase [1, 2] with sched := some (.arc4 ⟨[], 0, 0⟩), keylen := 2 } =
    some ([], 0, 0x00000002) := by decide +kernel

/-! ## Cipher pieces: 95_test_vectors.md 3.2, 3.6 -/

theorem test_gmul : gmul 0x57 0x83 = 0xC1 ∧ gmul 0x57 0x13 = 0xFE ∧ gfInv 0x53 = 0xCA ∧
    gfInv 0 = 0 := by decide +kernel
theorem test_mixColumn : mixColumn ⟨0xDB, 0x13, 0x53, 0x45⟩ = ⟨0x8E, 0x4D, 0xA1, 0xBC⟩ ∧
    mixColumn ⟨0x2D, 0x26, 0x31, 0x4C⟩ = ⟨0x4D, 0x7E, 0xBD, 0xF8⟩ := by decide +kernel

/-- F by hand from 45_blowfish.md R253: (FFFFFFFF + 2) ^ 10 = 11, and 11 + FFFFFFF0 = 1; the key words of
R256 for a key of five bytes. -/
theorem test_bfF : bfF ⟨[], [0, 0xFFFFFFFF], [0, 0, 2], [0, 0, 0, 0x10], [0, 0, 0, 0, 0xFFFFFFF0]⟩
    0x01020304 = 1 ∧ bfKeyWord [1, 2, 3, 4, 5] 0 = 0x01020304 ∧
    bfKeyWord [1, 2, 3, 4, 5] 1 = 0x05010203 := by decide +kernel

/-! ## Witnesses: for each statement with hypotheses, a case that meets them -/

/-- Offsets at the boundaries of the byte regions DATA, IV, KEY and IBUF (BUF_BYTES = 4096). -/
def hostOffsets : List Nat :=
  [0x040, 0x04C, 0x050, 0x05C, 0x100, 0x1FC, 0x10000, 0x10FFC]

/-- Offsets at the boundaries of the reserved ranges. -/
def reservedOffsets : List Nat :=
  [0x024, 0x03C, 0x060, 0x0FC, 0x200, 0xFFFC, 0x11000, 0x1FFFC, 0x21000, 0x2FFFC]

/-- Offsets at the boundaries of the registers and of OBUF that the host only reads. -/
def readOnlyOffsets : List Nat := [0x000, 0x018, 0x01C, 0x020, 0x20000, 0x20FFC]

theorem test_hostBytes : (∀ off ∈ hostOffsets, hostBytes Config.defaultParams off) ∧
    ∀ off ∈ reservedOffsets ++ readOnlyOffsets ++ [0x004, 0x008, 0x00C, 0x010, 0x014],
      ¬hostBytes Config.defaultParams off := by
  simp [hostOffsets, reservedOffsets, readOnlyOffsets, hostBytes, Config.defaultParams]

theorem test_reservedOffset : (∀ off ∈ reservedOffsets, reservedOffset Config.defaultParams off) ∧
    ∀ off ∈ hostOffsets ++ readOnlyOffsets ++ [0x004, 0x008, 0x00C, 0x010, 0x014],
      ¬reservedOffset Config.defaultParams off := by
  simp [hostOffsets, reservedOffsets, readOnlyOffsets, reservedOffset, Config.defaultParams]

/-- RowPatternsSelectCommands: a decoded word, a word of a row, and a word of no row. -/
theorem witness_rows : decode 0x00000306 = .cmd (.unpad .idea) ∧
    (0x00000306 : Word) &&& rowMask (.unpad .aes) = rowMatch (.unpad .aes) ∧
    decode 0x00000000 = .illegal := by decide +kernel

/-- RowPatternsSelectCommands: the word 0 is in no row. -/
theorem witness_rows_none : ∀ i : Instr, (0 : Word) &&& rowMask i ≠ rowMatch i := by
  intro i; cases i <;> simp [rowMask, rowMatch]

/-- StepRunsTheDecodedCommand: every clause. -/
theorem witness_step_runs :
    (State.reset.withFetchWord 32 8).pending = some 8 ∧ decode 8 = .cmd .clear ∧
    (State.reset.withFetchWord 32 8).agenda = [] ∧
    ((accessing (readAt platform 0)).withFetchWord 32 8).pending = some 8 ∧
    ((accessing (readAt platform 0)).withFetchWord 32 8).agenda = [.engine, readAt platform 0] ∧
    (accessing (readAt platform 0)).agenda = [.host (.read 32 0x40000000)] ∧
    (accessing .powerOn).agenda = [.powerOn] := by decide

/-- IdleCoreChangesNothing: every clause. -/
theorem witness_idle : State.reset.pending = none ∧ State.reset.agenda = [] ∧
    (accessing .engine).pending = none ∧ (accessing .engine).agenda = [.engine] := by decide

/-- DecodingErrorsChangeOnlyStatus, with an access still to come, and
EveryCompletionSetsDoneAndFreesTheCore. -/
theorem witness_decoding_errors : ((accessing (readAt platform 0)).withFetchWord 32 0).pending = some 0 ∧
    decode 0 = .illegal ∧
    ((accessing (readAt platform 0)).withFetchWord 32 0x507).pending = some 0x507 ∧
    decode 0x507 = .unknown := by decide

/-- EveryAgendaRunsOutWithTheCoreIdle, second clause: a command in flight, and turns that do not reset
the core, a write of DATA with bit 1 set among them. -/
theorem witness_agenda : (busyAccessing (writeAt platform 0x040 2)).pending = some 8 ∧
    ∀ x ∈ (busyAccessing (writeAt platform 0x040 2)).agenda,
      x.resets (busyAccessing (writeAt platform 0x040 2)).params = false := by decide

/-- Which turns reset the core. -/
theorem test_resets : Turn.resets platform .powerOn = true ∧
    (writeAt platform 0x004 2).resets platform = true ∧
    (writeAt platform 0x004 1).resets platform = false := by decide

/-- StepKeepsTheInvariant: a state that meets the invariant, with a command in flight, takes a step. -/
theorem witness_invariant : ({ holding dataBase [1, 2] with pending := some 8 } : State).Inv ∧
    ∃ t, step { holding dataBase [1, 2] with pending := some 8 } = .next t := by
  refine ⟨?_, engineTurn_answers_next { holding dataBase [1, 2] with pending := some 8 }⟩
  constructor
  case schedShape => intro k h; cases h
  all_goals decide +kernel

/-- CmdWriteWhileIdleIsAccepted. -/
theorem witness_cmd_write : (accessing (writeAt platform 0x00C 8)).agenda = [writeAt platform 0x00C 8] ∧
    (accessing (writeAt platform 0x00C 8)).busy = false := by decide +kernel

/-- WritesWhileBusy: a boundary offset of every clause. -/
theorem witness_busy_writes : ∀ off ∈ hostOffsets ++ reservedOffsets ++ readOnlyOffsets ++
    [0x004, 0x008, 0x00C, 0x010, 0x014],
    (busyAccessing (writeAt platform off 1)).agenda = [writeAt platform off 1] ∧
    (busyAccessing (writeAt platform off 1)).busy = true ∧ off % 4 = 0 ∧ off < 0x30000 := by decide +kernel

/-- ReadsReturnTheRegistersWithoutSideEffect: a boundary offset of every clause; the core is idle. -/
theorem witness_reads : ∀ off ∈ hostOffsets ++ reservedOffsets ++ readOnlyOffsets ++
    [0x004, 0x008, 0x00C, 0x010, 0x014],
    (accessing (readAt platform off)).agenda = [readAt platform off] ∧
    (accessing (readAt platform off)).params.wellFormed = true ∧
    (accessing (readAt platform off)).busy = false ∧ off % 4 = 0 ∧ off < 0x30000 := by decide +kernel

/-- BusyReadsOfResultsAreDraws: each register, and OBUF at both ends. -/
theorem witness_busy_reads : ∀ off ∈ [0x018, 0x01C, 0x020, 0x20000, 0x20FFC],
    (busyAccessing (readAt platform off)).agenda = [readAt platform off] ∧
    (busyAccessing (readAt platform off)).params.wellFormed = true ∧
    (busyAccessing (readAt platform off)).busy = true ∧ off % 4 = 0 ∧
    (off = 0x018 ∨ off = 0x01C ∨ off = 0x020 ∨
      (0x20000 ≤ off ∧ off < 0x20000 + platform.bufBytes)) := by decide +kernel

/-- BufferWriteThenReadGivesTheWord, at the boundaries of the regions (with `test_hostBytes`). -/
theorem witness_buffer_write : ∀ off ∈ hostOffsets,
    (accessing (writeAt platform off 0x04030201)).agenda = [writeAt platform off 0x04030201] ∧
    (accessing (writeAt platform off 0x04030201)).busy = false ∧
    (accessing (writeAt platform off 0x04030201)).mem.wf = true ∧ off % 4 = 0 ∧ off < 0x30000 := by decide +kernel

/-- LengthRegisterWrites: both registers. -/
theorem witness_length_writes : (accessing (writeAt platform 0x010 512)).busy = false ∧
    (accessing (writeAt platform 0x010 512)).agenda = [writeAt platform 0x010 512] ∧
    (accessing (writeAt platform 0x014 65536)).busy = false ∧
    (accessing (writeAt platform 0x014 65536)).agenda = [writeAt platform 0x014 65536] := by decide +kernel

/-- ReadOnlyAndReservedWritesAreIgnored (with `test_reservedOffset`). -/
theorem witness_ignored_writes : ∀ off ∈ readOnlyOffsets ++ reservedOffsets,
    (accessing (writeAt platform off 1)).agenda = [writeAt platform off 1] ∧
    (accessing (writeAt platform off 1)).params.wellFormed = true ∧ off % 4 = 0 ∧ off < 0x30000 := by decide +kernel

/-- ControlAndStatusWrites, SoftResetAbandonsTheCommand and PowerOnResetGivesResetValues. -/
theorem witness_control_writes :
    (busyAccessing (writeAt platform 0x004 1)).agenda = [writeAt platform 0x004 1] ∧
    (1 : Word).getLsbD 1 = false ∧
    (busyAccessing (writeAt platform 0x008 6)).agenda = [writeAt platform 0x008 6] ∧
    (6 : Word).getLsbD 1 = true ∧
    (busyAccessing (writeAt platform 0x004 3)).agenda = [writeAt platform 0x004 3] ∧
    (3 : Word).getLsbD 1 = true ∧
    ({ keyLen 16 with agenda := [.powerOn] } : State).agenda = [.powerOn] := by decide +kernel

/-- BadAccessesAreNotPerformed: a narrow access, one below BASE, one just past the window, and a
misaligned one. -/
theorem witness_bad_accesses :
    (accessing (.host (.write 8 0x4002FFFC 1))).agenda = [.host (.write 8 0x4002FFFC 1)] ∧
    (HostAccess.write 8 0x4002FFFC 1).width ≠ 32 ∧
    (HostAccess.read 32 0x3FFFFFFC).addr < platform.base ∧
    platform.base + 0x30000 ≤ (HostAccess.read 32 0x40030000).addr ∧
    ((HostAccess.read 32 0x4002FFFE).addr - platform.base) % 4 ≠ 0 := by decide

/-- ExpandBuildsTheScheduleOrDiscardsTheOld, first clause, at the ends of every key-length set, and
ExpandedSchedulesHaveTheirShape and ExpansionsComputeTheirTables, whose keys are any strings of such a
length. -/
theorem witness_expand : ∀ p ∈ ([(.aes, 16), (.aes, 32), (.rc6, 16), (.rc6, 32), (.bf, 4), (.bf, 56),
    (.idea, 16), (.arc4, 1), (.arc4, 256)] : List (Cipher × BitVec 9)),
    keyLengthOk p.1 (keyLen p.2).keylen.toNat = true ∧
    keyLengthOk p.1 (rep 0 p.2.toNat).length = true := by decide +kernel

/-- ExpandBuildsTheScheduleOrDiscardsTheOld, second clause, just outside the key-length sets. -/
theorem witness_expand_rejects : ∀ p ∈ ([(.aes, 15), (.aes, 33), (.rc6, 0), (.rc6, 33), (.bf, 3),
    (.bf, 57), (.idea, 15), (.idea, 17), (.arc4, 0), (.arc4, 257), (.arc4, 511)] :
    List (Cipher × BitVec 9)),
    ((keyLen p.2).withFetchWord 32 1).pending = some 1 ∧
    keyLengthOk p.1 ((keyLen p.2).withFetchWord 32 1).keylen.toNat = false := by decide +kernel

/-- ExpandDependsOnTheKeyBytesAlone: two states that differ outside the key. -/
theorem witness_expand_alone : (message [1]).keylen = State.reset.keylen ∧
    (∀ k, k < State.reset.keylen.toNat →
      (message [1]).mem.read (keyBase + k) = State.reset.mem.read (keyBase + k)) ∧
    (∃ t, exec (expandInstr .aes) State.reset = .next t) ∧
    ∃ t, exec (expandInstr .aes) (message [1]) = .next t := by
  refine ⟨by decide +kernel, ?_, ⟨_, rfl⟩, ⟨_, rfl⟩⟩
  intro k h
  exact absurd h (by simp [State.reset])

/-- AesBlockCommands, Rc6BlockCommands, BlowfishBlockCommands, IdeaBlockCommands and
KsnextTakesOneKeystreamStep: a store with a schedule of each kind. -/
theorem witness_keyed : (keyedBlock (.block (.aes 10 [])) []).sched = some (.block (.aes 10 [])) ∧
    (keyedBlock (.block (.aes 10 [])) []).mem.wf = true ∧
    (keyedBlock (.block (.rc6 [])) []).sched = some (.block (.rc6 [])) ∧
    (keyedBlock (.block (.rc6 [])) []).mem.wf = true ∧
    (keyedBlock bfSchedule []).sched = some bfSchedule ∧ (keyedBlock bfSchedule []).mem.wf = true ∧
    (keyedBlock (.block (.idea [] [])) []).sched = some (.block (.idea [] [])) ∧
    (keyedBlock (.block (.idea [] [])) []).mem.wf = true ∧
    (keyedBlock (.arc4 ⟨arc4Identity, 0, 0⟩) []).sched = some (.arc4 ⟨arc4Identity, 0, 0⟩) ∧
    (⟨arc4Identity, 0, 0⟩ : Arc4State).s.length = 256 := by decide +kernel

/-- NotKeyedChangesOnlyStatus: an empty store, and a store of another cipher. -/
theorem witness_not_keyed :
    (State.reset.withFetchWord 32 2).pending = some 2 ∧
    (∀ k, (State.reset.withFetchWord 32 2).sched = some k → k.tag ≠ 0) ∧
    ((keyedBlock bfSchedule []).withFetchWord 32 2).pending = some 2 ∧
    ∀ k, ((keyedBlock bfSchedule []).withFetchWord 32 2).sched = some k → k.tag ≠ 0 := by
  refine ⟨by decide +kernel, by decide +kernel, by decide +kernel, ?_⟩
  intro k h
  cases h
  decide +kernel

/-- PadAppendsThePaddingBytes: the shortest and the longest message that fits. -/
theorem witness_pad : State.reset.params.wellFormed = true ∧ State.reset.mem.wf = true ∧
    State.reset.msglen.toNat < State.reset.params.bufBytes ∧
    ({ State.reset with msglen := 4095 } : State).msglen.toNat < State.reset.params.bufBytes := by
  decide +kernel

/-- UnpadStripsThePadding: 8 bytes that end in one byte of padding. -/
theorem witness_unpad : (message [1, 2, 3, 4, 5, 6, 7, 1]).params.wellFormed = true ∧
    (message [1, 2, 3, 4, 5, 6, 7, 1]).mem.wf = true ∧
    (message [1, 2, 3, 4, 5, 6, 7, 1]).msglen.toNat <
      (message [1, 2, 3, 4, 5, 6, 7, 1]).params.bufBytes ∧
    paddedMessage .bf (message [1, 2, 3, 4, 5, 6, 7, 1])
      (message [1, 2, 3, 4, 5, 6, 7, 1]).msglen.toNat 1 := by
  refine ⟨by decide +kernel, by decide +kernel, by decide +kernel, by decide +kernel,
    by decide +kernel, by decide +kernel, by decide +kernel, ?_⟩
  intro k hk hk'
  have h : k = 7 := by
    have : (message [1, 2, 3, 4, 5, 6, 7, 1]).msglen.toNat = 8 := by decide +kernel
    omega
  subst h
  decide +kernel

/-- UnpadRejectsMalformedPadding: the empty message. -/
theorem witness_unpad_rejects : (State.reset.withFetchWord 32 0x206).pending = some 0x206 ∧
    (State.reset.withFetchWord 32 0x206).msglen.toNat <
      (State.reset.withFetchWord 32 0x206).params.bufBytes ∧
    ∀ p, ¬paddedMessage .bf (State.reset.withFetchWord 32 0x206)
      (State.reset.withFetchWord 32 0x206).msglen.toNat p := by
  refine ⟨by decide +kernel, by decide +kernel, ?_⟩
  rintro p ⟨-, h1, -, h2, -⟩
  have : (State.reset.withFetchWord 32 0x206).msglen.toNat = 0 := by decide +kernel
  omega

/-- TooLongAMessageIsALengthError: MSGLEN = BUF_BYTES, and PAD, UNPAD and the two forms of RUN. -/
theorem witness_too_long :
    (({ State.reset with msglen := 4096 } : State).withFetchWord 32 5).pending = some 5 ∧
    (({ State.reset with msglen := 4096 } : State).withFetchWord 32 5).params.bufBytes ≤
      (({ State.reset with msglen := 4096 } : State).withFetchWord 32 5).msglen.toNat ∧
    (∃ c, Instr.pad .bf = .pad c ∨ Instr.pad .bf = .unpad c) ∧
    ((∃ c d m iv, Instr.runArc4 .enc = .run c d m iv) ∨
      ∃ d, Instr.runArc4 .enc = .runArc4 d) := by
  exact ⟨by decide +kernel, by decide +kernel, ⟨.bf, .inl rfl⟩, .inr ⟨.enc, rfl⟩⟩

/-- ChainingEquations: a first block and one after it. -/
theorem witness_chaining : 0 < [rep 0 8, rep 1 8].length ∧ 1 < [rep 0 8, rep 1 8].length := by decide

/-- RunTransformsTheMessage, and EncryptThenDecryptGivesTheMessage: an empty message and a key. -/
theorem witness_run : (keyLen 16).params.wellFormed = true ∧ (keyLen 16).mem.wf = true ∧
    (keyLen 16).msglen.toNat < (keyLen 16).params.bufBytes - blockSize .idea ∧
    keyLengthOk BlockCipher.idea.cipher (keyLen 16).keylen.toNat = true ∧
    keyLengthOk .arc4 (keyLen 16).keylen.toNat = true ∧
    ∃ out, runMessage .idea .enc .cbc
      (expandBlock .idea ((keyLen 16).mem.readBytes keyBase (keyLen 16).keylen.toNat))
      ((keyLen 16).mem.readBytes ivBase (blockSize .idea))
      ((keyLen 16).mem.readBytes ibufBase (keyLen 16).msglen.toNat) = some out := by
  refine ⟨by decide +kernel, by decide +kernel, by decide +kernel, by decide +kernel,
    by decide +kernel, ?_⟩
  simp only [runMessage]
  exact ⟨_, rfl⟩

/-- The state that RUN IDEA, ENC, ECB leaves on an empty message. -/
def encrypted : State := runResult (runEncrypt .idea .ecb (expandBlock .idea (keyLen 16).key)
  ((keyLen 16).iv 8) (keyLen 16).message) (keyLen 16)

/-- The state that the host's copy of OBUF into IBUF makes of it. -/
def copied : State :=
  { encrypted with
    msglen := encrypted.outlen
    mem := encrypted.mem.writeBytes ibufBase encrypted.output }

/-- EncryptThenDecryptGivesTheMessage: a state that a RUN leaves, and the one the host's copy makes of
it. -/
theorem witness_copied_back : exec (.run .idea .enc .ecb false) (keyLen 16) = .next encrypted ∧
    copiedBack encrypted copied := by
  refine ⟨?_, rfl, by decide +kernel, rfl, rfl, by decide +kernel, by decide +kernel,
    by decide +kernel⟩
  have h : (keyLen 16).tooLong = false := by decide +kernel
  have hk : keyLengthOk BlockCipher.idea.cipher (keyLen 16).keylen.toNat = true := by decide +kernel
  simp only [exec, execRun, h, hk, runMessage, encrypted, blockSize, Bool.false_eq_true, if_false,
    reduceCtorEq, false_and, Bool.true_eq_false]

/-- RunTransformsTheMessage, decryption: that state again, whose one block deciphers to 8 bytes 8. -/
theorem witness_run_decrypt : copied.params.wellFormed = true ∧ copied.mem.wf = true ∧
    copied.msglen.toNat < copied.params.bufBytes ∧
    keyLengthOk BlockCipher.idea.cipher copied.keylen.toNat = true ∧
    decryptsTo
      (blockFunctions (expandKey .idea (copied.mem.readBytes keyBase copied.keylen.toNat))).2 .ecb 8
      (fun j => copied.mem.read (ivBase + j)) (fun j => copied.mem.read (ibufBase + j))
      copied.msglen.toNat (fun _ => 8) ∧
    endsInPadding 8 (fun _ => 8) copied.msglen.toNat 8 := by
  have h : copied.msglen.toNat = 8 := by decide +kernel
  rw [h]
  refine ⟨by decide +kernel, by decide +kernel, by decide +kernel, by decide +kernel, ?_,
    by decide, by decide, by decide, by decide, fun _ _ _ => rfl⟩
  intro t ht
  have h0 : t = 0 := by omega
  subst h0
  decide +kernel

/-- The start state of 95_test_vectors.md 3.5: the zero key, and eight bytes 0 to decipher. -/
def zeroCipherText : State := { keyLen 16 with msglen := 8 }

/-- RunErrorsInTheirOrder, `PaddingError`: those bytes decipher to 0001000100000000 (95_test_vectors.md
3.5), which ends in no padding; and a length that is no multiple of 8. -/
theorem witness_run_padding : (∃ z, decryptsTo
      (blockFunctions (expandKey .idea
        (zeroCipherText.mem.readBytes keyBase zeroCipherText.keylen.toNat))).2 .ecb 8
      (fun j => zeroCipherText.mem.read (ivBase + j))
      (fun j => zeroCipherText.mem.read (ibufBase + j)) zeroCipherText.msglen.toNat z ∧
      ∀ p, ¬endsInPadding 8 z zeroCipherText.msglen.toNat p) ∧
    ({ keyLen 16 with msglen := 7 } : State).msglen.toNat % 8 ≠ 0 := by
  have h : zeroCipherText.msglen.toNat = 8 := by decide +kernel
  rw [h]
  refine ⟨⟨fun j => byteAt [0, 1, 0, 1, 0, 0, 0, 0] j, ?_, ?_⟩, by decide +kernel⟩
  · intro t ht
    have h0 : t = 0 := by omega
    subst h0
    decide +kernel
  · rintro p ⟨-, h1, -, -, h2⟩
    have h7 : (byteAt [0, 1, 0, 1, 0, 0, 0, 0] 7).toNat = p := h2 7 (by omega) (by omega)
    have h0 : (byteAt [0, 1, 0, 1, 0, 0, 0, 0] 7).toNat = 0 := by decide
    omega

/-- RunErrorsInTheirOrder: each of the three errors. -/
theorem witness_run_errors :
    (Chain.cbc = .cbc ∧ false = false) ∧
    (¬(Chain.ecb = .cbc ∧ false = false) ∧
      keyLengthOk BlockCipher.aes.cipher State.reset.keylen.toNat = false) ∧
    (¬(Chain.ecb = .cbc ∧ false = false) ∧
      keyLengthOk BlockCipher.idea.cipher (keyLen 16).keylen.toNat = true ∧
      runDecrypt .idea .ecb
        (expandBlock .idea ((keyLen 16).mem.readBytes keyBase (keyLen 16).keylen.toNat))
        ((keyLen 16).mem.readBytes ivBase (blockSize .idea))
        ((keyLen 16).mem.readBytes ibufBase (keyLen 16).msglen.toNat) = none) ∧
    ((keyLen 16).withFetchWord 32 0x1307).pending = some 0x1307 ∧
    (keyLen 16).msglen.toNat < (keyLen 16).params.bufBytes := by
  refine ⟨by decide +kernel, by decide +kernel, ⟨by decide +kernel, by decide +kernel, ?_⟩,
    by decide +kernel, by decide +kernel⟩
  have h : ((keyLen 16).mem.readBytes ibufBase (keyLen 16).msglen.toNat).length = 0 := by decide +kernel
  simp only [runDecrypt, h, true_or, if_true]

/-- RunArc4XorsTheKeystream: a message with a byte, and a store with the key's fresh state. -/
theorem witness_keystream : 0 < (message [1]).msglen.toNat ∧
    (keyedBlock (.arc4 (arc4Ksa [1])) []).sched = some (.arc4 (arc4Ksa [1])) := ⟨by decide, rfl⟩

/-- RunArc4XorsTheKeystream: the ends of the key lengths, and the lengths just outside. -/
theorem witness_run_arc4 : (1 ≤ (keyLen 1).keylen.toNat ∧ (keyLen 1).keylen.toNat ≤ 256) ∧
    (1 ≤ (keyLen 256).keylen.toNat ∧ (keyLen 256).keylen.toNat ≤ 256) ∧
    (keyLen 0).keylen.toNat = 0 ∧ 256 < (keyLen 257).keylen.toNat ∧
    ((keyLen 257).withFetchWord 32 0x407).pending = some 0x407 ∧
    (keyLen 1).mem.wf = true ∧ (keyLen 1).params.wellFormed = true := by decide +kernel

/-- NoCommandWritesIvOrIbuf, OnlyClearWritesKeyAndOnlyBlockCommandsWriteData and LifeOfTheSchedule: CLEAR
answers a next state. -/
theorem witness_commands : State.reset.params.wellFormed = true ∧
    (∃ t, exec .clear State.reset = .next t) ∧ (∃ t, exec .ksnext State.reset = .next t) ∧
    ∃ t, exec (.pad .bf) State.reset = .next t :=
  ⟨by decide +kernel, ⟨_, rfl⟩, ⟨_, rfl⟩, ⟨_, rfl⟩⟩

/-- ErrorsLeaveNoPartialOutput: KSNEXT with an empty store ends with an error. -/
theorem witness_error : ∃ t, exec .ksnext State.reset = .next t ∧ t.err ≠ 0 := ⟨_, rfl, by decide +kernel⟩

/-- AesDecryptInvertsEncrypt, Rc6DecryptInvertsEncrypt, BlowfishDecryptInvertsEncrypt and
IdeaDecryptInvertsEncrypt: a block of each length; and a table that is a permutation. -/
theorem witness_blocks : (rep 0 16).length = 16 ∧ (rep 0 8).length = 8 ∧ 1 ≤ 10 := by decide +kernel

theorem witness_permutation : (⟨arc4Identity, 0, 0⟩ : Arc4State).isPermutation := by
  refine ⟨by decide +kernel, List.Nodup.map_on ?_ List.nodup_range⟩
  intro a ha b hb h
  have := congrArg BitVec.toNat h
  simp at this ha hb
  omega

end Sys2Proof.Tests
end

section
/-! SUPPORT. Host writes: which region an offset stands in, what a write does there, busy and idle, and the
step that serves it (10_state.md R31 to R52); then the statements of 10_state.md R37 and R39. -/

namespace Sys2Proof.Machine

/-! ## The regions of the address map -/

/-- The address map's test for the byte regions that the host writes is `hostBytes` (20_memory.md R72). -/
theorem hostRanges_iff (p : Params) (off : Nat) :
    (inRange dataBase 16 off || inRange ivBase 16 off || inRange keyBase 256 off ||
      inRange ibufBase p.bufBytes off) = true ↔ hostBytes p off := by
  simp only [inRange, Bool.or_eq_true, Bool.and_eq_true, decide_eq_true_eq]
  unfold dataBase ivBase keyBase ibufBase hostBytes
  omega

/-- DATA, IV, KEY and IBUF lie past the registers, so nothing of the map stands before them. -/
theorem regionOf_of_hostBytes {p : Params} {off : Nat} (h : hostBytes p off) :
    regionOf p off = .operandBytes := by
  have hpast : 0x040 ≤ off := by unfold hostBytes at h; omega
  unfold regionOf
  iterate 9 rw [if_neg (by omega)]
  rw [if_pos ((hostRanges_iff p off).mpr h)]

/-- Off CTRL, STATUS, CMD, KEYLEN, MSGLEN and the byte regions that the host writes, the map has only
read-only and reserved regions (10_state.md R31, 20_memory.md R76). -/
theorem regionOf_ignored {p : Params} {off : Nat} (h : ¬(off = 0x00C ∨ off = 0x010 ∨ off = 0x014 ∨
    hostBytes p off ∨ off = 0x004 ∨ off = 0x008)) :
    regionOf p off ∈ [Region.id, .outlen, .errinfo, .ksbyte, .outputBytes, .reserved] := by
  simp only [not_or] at h
  obtain ⟨hcmd, hkeylen, hmsglen, hbytes, hctrl, hstatus⟩ := h
  rw [← hostRanges_iff] at hbytes
  rw [regionOf, if_neg hctrl, if_neg hstatus, if_neg hcmd, if_neg hkeylen, if_neg hmsglen,
    if_neg hbytes]
  clear hbytes
  split_ifs <;> decide

/-! ## A write, by region -/

/-- A write of STATUS clears DONE by its bit 1 and OVR by its bit 2 (10_state.md R34). -/
theorem writeStatus_eq (v : Word) (s : State) :
    s.writeStatus v = { s with
      done := s.done && !v.getLsbD 1, ovr := s.ovr && !v.getLsbD 2 } := by
  unfold State.writeStatus
  cases v.getLsbD 1 <;> cases v.getLsbD 2 <;> simp [State.acknowledge, State.clearOvr]

/-- A write performed only when idle is dropped while busy (10_state.md R39). -/
theorem ifIdle_busy {s : State} (f : State → State) (hbusy : s.busy = true) :
    s.ifIdle f = s.dropWrite := if_pos hbusy

/-- While idle it is performed. -/
theorem ifIdle_idle {s : State} (f : State → State) (hidle : s.busy = false) : s.ifIdle f = f s :=
  if_neg (Bool.eq_false_iff.mp hidle)

/-- While busy a write of CMD, KEYLEN, MSGLEN or a byte region is dropped (10_state.md R39). -/
theorem writeWord_dropped {s : State} {off : Nat} (v : Word) (hbusy : s.busy = true)
    (h : off = 0x00C ∨ off = 0x010 ∨ off = 0x014 ∨ hostBytes s.params off) :
    s.writeWord off v = s.dropWrite := by
  rcases h with rfl | rfl | rfl | hbytes
  · exact ifIdle_busy _ hbusy
  · exact ifIdle_busy _ hbusy
  · exact ifIdle_busy _ hbusy
  · simp [State.writeWord, regionOf_of_hostBytes hbytes, ifIdle_busy _ hbusy]

/-- A write of CMD while idle is an acceptance (10_state.md R37). -/
theorem writeWord_cmd_idle {s : State} (v : Word) (hidle : s.busy = false) :
    s.writeWord 0x00C v = s.accept v := ifIdle_idle _ hidle

/-- A write of CTRL is performed, busy or idle (10_state.md R33, R39). -/
theorem writeWord_ctrl (v : Word) (s : State) : s.writeWord 0x004 v = s.writeCtrl v := rfl

/-- A write of STATUS is performed, busy or idle (10_state.md R34, R39). -/
theorem writeWord_status (v : Word) (s : State) : s.writeWord 0x008 v = s.writeStatus v := rfl

/-- A write of a read-only register, of OBUF or of a reserved offset is ignored, busy or idle
(10_state.md R39, 20_memory.md R76). -/
theorem writeWord_ignored {s : State} {off : Nat} (v : Word) (h : ¬(off = 0x00C ∨ off = 0x010 ∨
    off = 0x014 ∨ hostBytes s.params off ∨ off = 0x004 ∨ off = 0x008)) :
    s.writeWord off v = s := by
  have hregion := regionOf_ignored h
  unfold State.writeWord
  cases hr : regionOf s.params off with
  | id | outlen | errinfo | ksbyte | outputBytes | reserved => rfl
  | ctrl | status | cmd | keylen | msglen | operandBytes => simp [hr] at hregion

/-- What a write does to the core does not depend on the turns still to come. -/
theorem writeWord_setAgenda (off : Nat) (v : Word) (l : List Turn) (s : State) :
    (s.setAgenda l).writeWord off v = (s.writeWord off v).setAgenda l := by
  have hidle (f : State → State) (hf : f (s.setAgenda l) = (f s).setAgenda l) :
      (s.setAgenda l).ifIdle f = (s.ifIdle f).setAgenda l := by
    rw [State.ifIdle, State.ifIdle, apply_ite (State.setAgenda l), hf]
    rfl
  unfold State.writeWord
  rw [State.setAgenda_params]
  cases regionOf s.params off with
  | ctrl => simp only [State.writeCtrl, apply_ite (State.setAgenda l)]; rfl
  | status => simp only [writeStatus_eq]; rfl
  | cmd | keylen | msglen | operandBytes => exact hidle _ rfl
  | id | outlen | errinfo | ksbyte | outputBytes | reserved => rfl

/-! ## The step that serves a write -/

/-- The step whose turn is the host's write at an aligned offset of the window performs that write and
takes the turn off the agenda (20_memory.md R73, R81). -/
theorem step_writeAt {s : State} {off : Nat} {v : Word} {rest : List Turn}
    (hturn : s.agenda = writeAt s.params off v :: rest) (h4 : off % 4 = 0) (hlt : off < 0x30000) :
    step s = .next ((s.writeWord off v).setAgenda rest).replyWritten := by
  have hserve := serve_write (v := v) (State.setAgenda_params rest s) h4 hlt
  rw [writeWord_setAgenda] at hserve
  simp [step, nextTurn, hturn, writeAt, takeTurn, hserve]

/-! ## Frames: the agenda and the bus's reply are no part of the core -/

theorem coreSame_refl (s : State) : s.coreSame s := by simp [State.coreSame]

@[simp] theorem coreSame_setAgenda_replyWritten (s t : State) (l : List Turn) :
    s.coreSame (t.setAgenda l).replyWritten ↔ s.coreSame t := Iff.rfl

@[simp] theorem coreReset_setAgenda_replyWritten (s t : State) (l : List Turn) :
    s.coreReset (t.setAgenda l).replyWritten ↔ s.coreReset t := Iff.rfl

/-- The reset of the core leaves every register at its reset value and, with BUFFER_RESET_CLEARS, every
byte 0x00 (70_reset_and_hazards.md R452). -/
theorem coreReset_resetCore (s : State) : s.coreReset s.resetCore := by
  simp +contextual [State.coreReset, State.busy, State.irq, resetMemory, Memory.read]

/-! ## The statements -/

/-- Settles O13: the step performs the write, and acceptance writes `pending`, DONE and ERR only. -/
theorem cmdWriteWhileIdleIsAccepted : Obligations.CmdWriteWhileIdleIsAccepted := by
  intro s v rest hturn hidle
  have hstep := step_writeAt hturn (by decide) (by decide)
  rw [writeWord_cmd_idle v hidle] at hstep
  exact ⟨_, hstep, by simp [State.busy, State.sameResults]⟩

/-- Settles O14: the step performs the write, and a write while busy is dropped, performed or ignored by
the region of its offset. -/
theorem writesWhileBusy : Obligations.WritesWhileBusy := by
  intro s off v rest hturn hbusy h4 hlt
  refine ⟨_, step_writeAt hturn h4 hlt, rfl, ?dropped, ?srst, ?ie, ?status, ?ignored⟩ <;>
    simp only [coreSame_setAgenda_replyWritten, coreReset_setAgenda_replyWritten]
  case dropped =>
    intro hoff
    rw [writeWord_dropped v hbusy hoff]
    exact coreSame_refl _
  case srst =>
    rintro rfl hsrst
    rw [writeWord_ctrl, State.writeCtrl, if_pos hsrst]
    exact coreReset_resetCore s
  case ie =>
    rintro rfl hsrst
    rw [writeWord_ctrl, State.writeCtrl, if_neg (Bool.eq_false_iff.mp hsrst)]
    exact coreSame_refl _
  case status =>
    rintro rfl
    rw [writeWord_status, writeStatus_eq]
    exact coreSame_refl _
  case ignored =>
    intro hoff
    rw [writeWord_ignored v hoff]
    exact coreSame_refl _

end Sys2Proof.Machine
end

section
/-! SUPPORT. The two endings of a command in the terms of the statements: the flags and ERRINFO they leave,
and what they do not write (10_state.md R38, 60_exceptions.md R410). -/

namespace Sys2Proof.Machine

theorem endedWell_succeed (s : State) : s.succeed.endedWell := by simp [State.endedWell]

/-- An error ends the command of the captured word with its code and its offending length, whatever the
place it arises at. -/
theorem endedWith_raise {s : State} {w : Word} (hpending : s.pending = some w) (pl : ErrorPlace)
    (e : CmdError) (len : Half) : (s.raise pl e len).endedWith e w len := by
  have hcaptured : s.captured = w := by simp [State.captured, hpending]
  refine ⟨State.raise_err .., State.raise_done .., State.raise_pending .., ?_⟩
  rw [State.raise_errinfo, hcaptured]
  exact errinfoWord_fields w len

theorem sameOutsideCommand_raise (pl : ErrorPlace) (e : CmdError) (len : Half) (s : State) :
    s.sameOutsideCommand (s.raise pl e len) := by simp [State.sameOutsideCommand]

/-- KEYLEN as an offending length is its number, on 16 bits (10_state.md R46). -/
theorem keylenInfo_eq (s : State) : s.keylenInfo = BitVec.ofNat 16 s.keylen.toNat :=
  (BitVec.ofNat_toNat 16 s.keylen).symm

end Sys2Proof.Machine
end

section
/-! SUPPORT. The schedule store: what EXPAND leaves in it (41_key_schedule.md R150, R151), and which commands
keep, discard or step it (10_state.md R44, 41_key_schedule.md R154). -/

namespace Sys2Proof.Machine

/-! ## KEYED and SCHED are functions of the store (10_state.md R45) -/

theorem keyed_of_sched {s : State} {k : Schedule} (h : s.sched = some k) : s.keyed = true := by
  simp [State.keyed, h]

theorem schedTag_of_sched {s : State} {k : Schedule} (h : s.sched = some k) : s.schedTag = k.tag := by
  simp [State.schedTag, h]

theorem keyed_schedTag_congr {s t : State} (h : t.sched = s.sched) :
    t.keyed = s.keyed ∧ t.schedTag = s.schedTag := by
  simp [State.keyed, State.schedTag, h]

/-! ## EXPAND -/

/-- The schedule that `expand_c` builds is one of the cipher c. -/
theorem expandKey_tag (c : Cipher) (k : Bytes) : (expandKey c k).tag.toNat = c.id.toNat := by
  cases c <;> rfl

/-- EXPAND of every cipher is the common command (43_aes.md R195, 44_rc6.md R226, 45_blowfish.md R257,
46_idea.md R288, 47_arc4.md R312). -/
theorem exec_expandInstr (c : Cipher) (s : State) : exec (expandInstr c) s = expandCommand c s := by
  cases c <;> rfl

theorem expandCommand_accepted {c : Cipher} {s : State} (h : keyLengthOk c s.keylen.toNat = true) :
    expandCommand c s = .next (s.setSched (some (expandKey c s.key))).succeed := if_pos h

theorem expandCommand_rejected {c : Cipher} {s : State} (h : keyLengthOk c s.keylen.toNat = false) :
    expandCommand c s = .next (s.raise .expand .invalidKeyLength s.keylenInfo) :=
  if_neg (Bool.eq_false_iff.mp h)

/-- The store after an EXPAND, from KEYLEN and the key string alone: its old content is not in it. -/
theorem expandCommand_sched {c : Cipher} {s t : State} (h : expandCommand c s = .next t) :
    t.sched = if keyLengthOk c s.keylen.toNat then some (expandKey c s.key) else none := by
  rcases expandCommand_cases h with ⟨hok, rfl⟩ | ⟨hbad, rfl⟩
  · simp [hok]
  · simp [hbad]

/-- The key string is KEYLEN and the bytes KEY[0..KEYLEN) (10_state.md R41, R50). -/
theorem key_congr {s s' : State} (hlen : s'.keylen = s.keylen)
    (hbytes : ∀ k, k < s.keylen.toNat → s'.mem.read (keyBase + k) = s.mem.read (keyBase + k)) :
    s'.key = s.key := by
  unfold State.key
  rw [hlen]
  refine Memory.readBytes_congr fun a hlo hhi => ?_
  have hbyte := hbytes (a - keyBase) (by omega)
  rwa [Nat.add_sub_cancel' hlo] at hbyte

/-! ## ENCB, DECB and KSNEXT -/

/-- The eight block commands are ENCB and DECB of the four block ciphers (30_encoding.md R105). -/
theorem blockCommand_cases {i : Instr} (h : i ∈ [Instr.encbAes, .decbAes, .encbRc6, .decbRc6, .encbBf,
    .decbBf, .encbIdea, .decbIdea]) : ∃ c, i = encbInstr c ∨ i = decbInstr c := by
  simp only [List.mem_cons, List.not_mem_nil, or_false] at h
  rcases h with rfl | rfl | rfl | rfl | rfl | rfl | rfl | rfl
  exacts [⟨.aes, .inl rfl⟩, ⟨.aes, .inr rfl⟩, ⟨.rc6, .inl rfl⟩, ⟨.rc6, .inr rfl⟩,
    ⟨.bf, .inl rfl⟩, ⟨.bf, .inr rfl⟩, ⟨.idea, .inl rfl⟩, ⟨.idea, .inr rfl⟩]

theorem exec_encbInstr_cases {c : BlockCipher} {s t : State} (h : exec (encbInstr c) s = .next t) :
    KeyedOutcome s t := by
  cases c with
  | aes => exact execEncbAes_cases h
  | rc6 => exact execEncbRc6_cases h
  | bf => exact execEncbBf_cases h
  | idea => exact execEncbIdea_cases h

theorem exec_decbInstr_cases {c : BlockCipher} {s t : State} (h : exec (decbInstr c) s = .next t) :
    KeyedOutcome s t := by
  cases c with
  | aes => exact execDecbAes_cases h
  | rc6 => exact execDecbRc6_cases h
  | bf => exact execDecbBf_cases h
  | idea => exact execDecbIdea_cases h

/-- An ARC4 schedule is another cipher's for every ENCB and DECB (60_exceptions.md R406). -/
theorem exec_block_under_arc4 {s : State} {st : Arc4State} (h : s.sched = some (.arc4 st))
    (c : BlockCipher) :
    exec (encbInstr c) s = notKeyed s ∧ exec (decbInstr c) s = notKeyed s := by
  cases c with
  | aes => simp [exec, encbInstr, decbInstr, execEncbAes, execDecbAes, h]
  | rc6 => simp [exec, encbInstr, decbInstr, execEncbRc6, execDecbRc6, h]
  | bf => simp [exec, encbInstr, decbInstr, execEncbBf, execDecbBf, h]
  | idea => simp [exec, encbInstr, decbInstr, execEncbIdea, execDecbIdea, h]

/-- A command under the store that does nothing with an ARC4 schedule keeps the store. -/
theorem KeyedOutcome.sched_eq {s t : State} (h : KeyedOutcome s t)
    (harc4 : ∀ st, s.sched = some (.arc4 st) → t = s.raise .keyed .notKeyed 0) :
    t.sched = s.sched := by
  rcases h with rfl | ⟨v, -, rfl⟩ | ⟨st, hst, -⟩
  · rfl
  · rfl
  · rw [harc4 st hst]
    rfl

theorem exec_encbInstr_sched {c : BlockCipher} {s t : State} (h : exec (encbInstr c) s = .next t) :
    t.sched = s.sched :=
  (exec_encbInstr_cases h).sched_eq fun _ hst =>
    notKeyed_cases ((exec_block_under_arc4 hst c).1.symm.trans h)

theorem exec_decbInstr_sched {c : BlockCipher} {s t : State} (h : exec (decbInstr c) s = .next t) :
    t.sched = s.sched :=
  (exec_decbInstr_cases h).sched_eq fun _ hst =>
    notKeyed_cases ((exec_block_under_arc4 hst c).2.symm.trans h)

/-- A command under the store keeps KEYED and SCHED: its one write of the store is a keystream step, which
puts an ARC4 schedule in the place of an ARC4 schedule (47_arc4.md R313). -/
theorem KeyedOutcome.keyed_schedTag {s t : State} (h : KeyedOutcome s t) :
    t.keyed = s.keyed ∧ t.schedTag = s.schedTag := by
  rcases h with rfl | ⟨v, -, rfl⟩ | ⟨st, hst, rfl⟩
  · exact keyed_schedTag_congr rfl
  · exact keyed_schedTag_congr rfl
  · rw [keyed_of_sched hst, schedTag_of_sched hst]
    exact ⟨rfl, rfl⟩

/-! ## PAD and UNPAD, RUN and CLEAR -/

theorem execPad_sched {c : BlockCipher} {s t : State} (h : execPad c s = .next t) :
    t.sched = s.sched := by
  rcases execPad_cases h with ⟨-, rfl⟩ | ⟨-, rfl⟩ <;> rfl

theorem execUnpad_sched {c : BlockCipher} {s t : State} (h : execUnpad c s = .next t) :
    t.sched = s.sched := by
  rcases execUnpad_cases h with ⟨-, rfl⟩ | ⟨-, -, rfl⟩ | ⟨-, d, -, rfl⟩ <;> rfl

theorem execRun_sched {c : BlockCipher} {d : Dir} {m : Chain} {iv : Bool} {s t : State}
    (h : execRun c d m iv s = .next t) : t.sched = none := by
  rcases execRun_cases h with ⟨e, len, rfl⟩ | ⟨-, -, -, out, -, rfl⟩ <;> rfl

theorem execRunArc4_sched {d : Dir} {s t : State} (h : execRunArc4 d s = .next t) :
    t.sched = none := by
  rcases execRunArc4_cases h with ⟨e, len, rfl⟩ | ⟨-, -, rfl⟩ <;> rfl

theorem execClear_sched {s t : State} (h : execClear s = .next t) : t.sched = none := by
  obtain rfl : s.discardKey.succeed = t := by simpa [execClear] using h
  rfl

/-! ## The statements -/

/-- Settles O25, by the two branches of the common command: the key length decides between the ending with
success and the error's. -/
theorem expandBuildsTheScheduleOrDiscardsTheOld :
    Obligations.ExpandBuildsTheScheduleOrDiscardsTheOld := by
  intro c s
  rw [exec_expandInstr]
  refine ⟨fun hok => ?accepted, fun w hpending hbad => ?rejected⟩
  case accepted =>
    refine ⟨_, expandCommand_accepted hok, endedWell_succeed _, rfl, rfl, expandKey_tag c _, ?_⟩
    simp [State.sameOutsideCommand, State.memSame]
  case rejected =>
    refine ⟨_, expandCommand_rejected hbad, ?_, rfl, rfl, rfl, sameOutsideCommand_raise .., ?_⟩
    · rw [← keylenInfo_eq]
      exact endedWith_raise hpending ..
    · simp [State.memSame]

/-- Settles O26: the store after an EXPAND is a function of KEYLEN and the key string, on which the two
states agree. -/
theorem expandDependsOnTheKeyBytesAlone : Obligations.ExpandDependsOnTheKeyBytesAlone := by
  intro c s s' t t' hlen hbytes ht ht'
  rw [exec_expandInstr] at ht ht'
  rw [expandCommand_sched ht', expandCommand_sched ht, hlen, key_congr hlen hbytes]

/-- Settles O49, command by command. -/
theorem lifeOfTheSchedule : Obligations.LifeOfTheSchedule := by
  intro i s t h
  refine ⟨?keep, ?discard, ?step⟩
  case keep =>
    rintro (hblock | ⟨c, rfl | rfl⟩)
    · obtain ⟨c, rfl | rfl⟩ := blockCommand_cases hblock
      · exact exec_encbInstr_sched h
      · exact exec_decbInstr_sched h
    · exact execPad_sched h
    · exact execUnpad_sched h
  case discard =>
    rintro (⟨c, d, m, iv, rfl⟩ | ⟨d, rfl⟩ | rfl)
    · exact execRun_sched h
    · exact execRunArc4_sched (d := d) h
    · exact execClear_sched h
  case step =>
    rintro rfl
    exact (execKsnext_cases h).keyed_schedTag

end Sys2Proof.Machine
end

section
/-! SUPPORT. Rotations bit by bit (00_scope.md R11). -/

namespace Sys2Proof.Machine

/-- Bit i of a word rotated left by r is bit i - r of the word, modulo the width. -/
theorem getLsbD_rotateLeft_mod {w : Nat} (x : BitVec w) (r : Nat) {i : Nat} (hi : i < w) :
    (x.rotateLeft r).getLsbD i = x.getLsbD ((i + (w - r % w)) % w) := by
  have hr : r % w < w := Nat.mod_lt _ (by omega)
  rw [BitVec.getLsbD_rotateLeft]
  by_cases hlow : i < r % w
  · have hidx : (i + (w - r % w)) % w = w - r % w + i := by
      rw [Nat.mod_eq_of_lt (by omega), Nat.add_comm]
    simp [hlow, hidx]
  · have hidx : (i + (w - r % w)) % w = i - r % w := by
      rw [show i + (w - r % w) = i - r % w + w by omega, Nat.add_mod_right,
        Nat.mod_eq_of_lt (by omega)]
    simp [hlow, hidx, hi]

/-- Bit i of a word rotated right by r is bit i + r of the word, modulo the width. -/
theorem getLsbD_rotateRight_mod {w : Nat} (x : BitVec w) (r : Nat) {i : Nat} (hi : i < w) :
    (x.rotateRight r).getLsbD i = x.getLsbD ((i + r) % w) := by
  have hr : r % w < w := Nat.mod_lt _ (by omega)
  rw [BitVec.getLsbD_rotateRight, ← Nat.add_mod_mod]
  by_cases hlow : i < w - r % w
  · have hidx : (i + r % w) % w = r % w + i := by
      rw [Nat.mod_eq_of_lt (by omega), Nat.add_comm]
    simp [hlow, hidx]
  · have hidx : (i + r % w) % w = i - (w - r % w) := by
      rw [show i + r % w = i - (w - r % w) + w by omega, Nat.add_mod_right,
        Nat.mod_eq_of_lt (by omega)]
    simp [hlow, hidx, hi]

/-- Rotating right undoes rotating left (00_scope.md R11). -/
theorem rotr32_rotl32 (x : Word) (n : Nat) : rotr32 (rotl32 x n) n = x := by
  refine BitVec.eq_of_getLsbD_eq fun i hi => ?_
  rw [rotr32, rotl32, getLsbD_rotateRight_mod _ _ hi,
    getLsbD_rotateLeft_mod _ _ (Nat.mod_lt _ (by decide))]
  congr 1
  omega

end Sys2Proof.Machine
end

section
/-! SUPPORT. The rounds of RC6 and their inverses (44_rc6.md R221 to R225); then the statements of
44_rc6.md R223 and R225. -/

namespace Sys2Proof.Machine

/-! ## Blocks as four little-endian words (44_rc6.md R221) -/

/-- A word packed from four bytes is unpacked into them (00_scope.md R10). -/
theorem le32Bytes_le32 (b : Bytes) (i : Nat) :
    le32Bytes (le32 b i) = [byteAt b i, byteAt b (i + 1), byteAt b (i + 2), byteAt b (i + 3)] := by
  simp only [le32Bytes, le32, List.cons.injEq, and_true]
  refine ⟨?_, ?_, ?_, ?_⟩ <;>
  · refine BitVec.eq_of_getLsbD_eq fun n hn => ?_
    simp only [BitVec.getLsbD_extractLsb', BitVec.getLsbD_append]
    interval_cases n <;> simp

theorem rc6Load_rc6Store (x : Rc6Block) : rc6Load (rc6Store x) = x := by
  obtain ⟨a, b, c, d⟩ := x
  exact congr (congr (congr (congrArg Rc6Block.mk (le32_le32Bytes a)) (le32_le32Bytes b))
    (le32_le32Bytes c)) (le32_le32Bytes d)

theorem rc6Store_rc6Load {b : Bytes} (h : b.length = 16) : rc6Store (rc6Load b) = b := by
  simp only [rc6Store, rc6Load, le32Bytes_le32, byteAt]
  refine List.ext_getElem (by simp [h]) fun i hi _ => ?_
  have hi : i < 16 := hi
  interval_cases i <;> simp [h]

/-! ## The rounds, and their inverses (44_rc6.md R224, R225) -/

/-- An inverse round undoes the round of its number. -/
theorem rc6InvRound_rc6Round (s : List Word) (i : Nat) (x : Rc6Block) :
    rc6InvRound s i (rc6Round s i x) = x := by
  obtain ⟨a, b, c, d⟩ := x
  simp [rc6InvRound, rc6Round, rotr32_rotl32]

/-- The last of `n + 1` rounds from round i on is round i + n. -/
theorem rc6Rounds_succ (s : List Word) (n i : Nat) (x : Rc6Block) :
    rc6Rounds s (n + 1) i x = rc6Round s (i + n) (rc6Rounds s n i x) := by
  induction n generalizing i x with
  | zero => rfl
  | succ n ih =>
    rw [rc6Rounds, ih, Nat.add_right_comm]
    rfl

theorem rc6InvRounds_rc6Rounds (s : List Word) (n : Nat) (x : Rc6Block) :
    rc6InvRounds s n (rc6Rounds s n 1 x) = x := by
  induction n with
  | zero => rfl
  | succ n ih => rw [rc6Rounds_succ, Nat.add_comm 1, rc6InvRounds, rc6InvRound_rc6Round, ih]

theorem rc6InvCipher_rc6Cipher (s : List Word) (x : Rc6Block) :
    rc6InvCipher s (rc6Cipher s x) = x := by
  have hrounds := rc6InvRounds_rc6Rounds s 20 ⟨x.a, x.b + s.getD 0 0, x.c, x.d + s.getD 1 0⟩
  simp only [rc6InvCipher, rc6Cipher, hrounds, BitVec.add_sub_cancel]

theorem rc6Decrypt_rc6Encrypt (s : List Word) {b : Bytes} (h : b.length = 16) :
    rc6Decrypt s (rc6Encrypt s b) = b := by
  rw [rc6Decrypt, rc6Encrypt, rc6Load_rc6Store, rc6InvCipher_rc6Cipher, rc6Store_rc6Load h]

/-! ## The rounds in the terms of the statement -/

/-- The words A, B, C and D after n rounds of the encryption of a block (44_rc6.md R224). -/
def rc6After (s : List Word) (b : Bytes) (n : Nat) : Rc6Block :=
  rc6Rounds s n 1 ⟨le32 b 0, le32 b 4 + s.getD 0 0, le32 b 8, le32 b 12 + s.getD 1 0⟩

theorem rc6After_succ (s : List Word) (b : Bytes) (n : Nat) :
    rc6After s b (n + 1) = rc6Round s (n + 1) (rc6After s b n) := by
  rw [rc6After, rc6Rounds_succ, Nat.add_comm 1]
  rfl

theorem rc6Encrypt_eq_rc6After (s : List Word) (b : Bytes) :
    rc6Encrypt s b = rc6Store ⟨(rc6After s b 20).a + s.getD 42 0, (rc6After s b 20).b,
      (rc6After s b 20).c + s.getD 43 0, (rc6After s b 20).d⟩ := rfl

theorem rc6RoundsRule_rc6Encrypt (s : List Word) (b : Bytes) :
    rc6RoundsRule s b (rc6Encrypt s b) := by
  refine ⟨fun n => (rc6After s b n).a, fun n => (rc6After s b n).b, fun n => (rc6After s b n).c,
    fun n => (rc6After s b n).d, rfl, rfl, rfl, rfl, fun n _ => ?_, rc6Encrypt_eq_rc6After s b⟩
  simp only [rc6After_succ]
  exact ⟨rfl, rfl, rfl, rfl⟩

/-! ## The statements -/

/-- Settles O54: each inverse round undoes its round, and the rounds are taken one by one. -/
theorem rc6DecryptInvertsEncrypt : Obligations.Rc6DecryptInvertsEncrypt :=
  ⟨fun s _ h => rc6Decrypt_rc6Encrypt s h, fun s b _ => rc6RoundsRule_rc6Encrypt s b⟩

/-- Settles O58: the values at the ends of the word, evaluated. -/
theorem modularBoundaryValues : Obligations.ModularBoundaryValues := by
  unfold Obligations.ModularBoundaryValues
  decide +kernel

end Sys2Proof.Machine
end

section
/-! SUPPORT. The key expansion of AES (43_aes.md R185). -/

namespace Sys2Proof.Machine

@[simp] theorem length_aesExtend (nk n : Nat) (w : List Quad) :
    (aesExtend nk n w).length = w.length + n := by
  induction n generalizing w with
  | zero => rfl
  | succ n ih => rw [aesExtend, ih, List.length_append, List.length_singleton, Nat.add_right_comm,
      Nat.add_assoc]

/-- Extending keeps the words that stand. -/
theorem aesExtend_getD_of_lt (nk n : Nat) {w : List Quad} {i : Nat} (hi : i < w.length) :
    (aesExtend nk n w).getD i Quad.zero = w.getD i Quad.zero := by
  induction n generalizing w with
  | zero => rfl
  | succ n ih => rw [aesExtend, ih (by rw [List.length_append]; omega), List.getD_append _ _ _ _ hi]

/-- Each new word is made from the one before it and the one Nk before it. -/
theorem aesExtend_getD_of_le {nk n : Nat} {w : List Quad} {i : Nat} (hnk : 0 < nk)
    (hw : nk ≤ w.length) (hlo : w.length ≤ i) (hhi : i < w.length + n) :
    (aesExtend nk n w).getD i Quad.zero =
      ((aesExtend nk n w).getD (i - nk) Quad.zero).xor
        (aesTemp nk i ((aesExtend nk n w).getD (i - 1) Quad.zero)) := by
  induction n generalizing w with
  | zero => omega
  | succ n ih =>
    rw [aesExtend]
    rcases Nat.lt_or_eq_of_le hlo with hlater | rfl
    · exact ih (by rw [List.length_append]; omega) (by rw [List.length_append]; exact hlater)
        (by rw [List.length_append, List.length_singleton]; omega)
    · simp only [aesExtend_getD_of_lt, List.length_append, List.length_singleton,
        Nat.lt_succ_self, show w.length - nk < w.length + 1 by omega,
        show w.length - 1 < w.length + 1 by omega]
      rw [List.getD_append _ _ _ _ (show w.length - nk < w.length by omega),
        List.getD_append _ _ _ _ (show w.length - 1 < w.length by omega),
        List.getD_append_right _ _ _ _ le_rfl, Nat.sub_self]
      rfl

/-- The word t of R185 with the round constant written out. -/
theorem aesTemp_eq (nk i : Nat) (p : Quad) : aesTemp nk i p =
    if i % nk = 0 then
      ⟨sbox p.b1 ^^^ xtime^[i / nk - 1] 0x01, sbox p.b2, sbox p.b3, sbox p.b0⟩
    else if nk = 8 ∧ i % nk = 4 then ⟨sbox p.b0, sbox p.b1, sbox p.b2, sbox p.b3⟩
    else p := by
  simp [aesTemp, Quad.xor, subWord, rotWord, rcon]

theorem aesExpansionRule_of_length {k : Bytes} (hk : keyLengthOk .aes k.length = true) :
    aesExpansionRule k := by
  have hnk : 0 < k.length / 4 := by
    simp only [keyLengthOk, Bool.or_eq_true, beq_iff_eq] at hk
    omega
  have hstart : ((List.range (k.length / 4)).map (quadAt k)).length = k.length / 4 := by simp
  have hlen : (aesExtend (k.length / 4) (4 * (k.length / 4 + 6 + 1) - k.length / 4)
      ((List.range (k.length / 4)).map (quadAt k))).length = 4 * (k.length / 4 + 7) := by
    rw [length_aesExtend, hstart]
    omega
  refine ⟨_, rfl, hlen, fun i hi => ?key, fun i hlo hhi => ?recurrence⟩
  case key =>
    rw [aesExtend_getD_of_lt _ _ (hstart.symm ▸ hi)]
    simp [hi, quadAt]
  case recurrence =>
    rw [length_aesExtend] at hhi
    rw [aesExtend_getD_of_le hnk hstart.ge (hstart.symm ▸ hlo) hhi, aesTemp_eq]

end Sys2Proof.Machine
end

section
/-! SUPPORT. The key expansion of RC6 (44_rc6.md R222). -/

namespace Sys2Proof.Machine

@[simp] theorem length_rc6Init (n : Nat) (x : Word) : (rc6Init n x).length = n := by
  induction n generalizing x with
  | zero => rfl
  | succ n ih => rw [rc6Init, List.length_cons, ih]

/-- Each of the initial words is the one before it plus Q32. -/
theorem rc6Init_getD_succ {n i : Nat} (x : Word) (hi : i + 1 < n) :
    (rc6Init n x).getD (i + 1) 0 = (rc6Init n x).getD i 0 + rc6Q := by
  induction n generalizing x i with
  | zero => omega
  | succ n ih =>
    cases i with
    | zero =>
      obtain ⟨m, rfl⟩ : ∃ m, n = m + 1 := ⟨n - 1, by omega⟩
      rfl
    | succ i => exact ih (x + rc6Q) (by omega)

/-- The working state before the key mixing of `rc6_expand(K)`. -/
def rc6MixStart (k : Bytes) : Rc6Mix :=
  { s := rc6Init 44 rc6P
    l := (List.range (k.length / 4)).map (fun n => le32 k (4 * n))
    a := 0
    b := 0
    i := 0
    j := 0 }

/-- The working state after n turns of the mixing loop. -/
def rc6MixAfter (k : Bytes) (n : Nat) : Rc6Mix := (rc6MixStep (k.length / 4))^[n] (rc6MixStart k)

theorem rc6Expand_eq_rc6MixAfter (k : Bytes) :
    rc6Expand k = .rc6 (rc6MixAfter k (3 * max (k.length / 4) 44)).s := rfl

theorem rc6MixAfter_succ (k : Bytes) (n : Nat) :
    rc6MixAfter k (n + 1) = rc6MixStep (k.length / 4) (rc6MixAfter k n) :=
  Function.iterate_succ_apply' ..

/-- The indices run cyclically through S and L. -/
theorem rc6MixAfter_indices (k : Bytes) (n : Nat) :
    (rc6MixAfter k n).i = n % 44 ∧ (rc6MixAfter k n).j = n % (k.length / 4) := by
  induction n with
  | zero => exact ⟨rfl, (Nat.zero_mod _).symm⟩
  | succ n ih =>
    obtain ⟨hi, hj⟩ := ih
    rw [rc6MixAfter_succ]
    simp [rc6MixStep, hi, hj]

theorem rc6ExpansionRule_of_length {k : Bytes} (hk : keyLengthOk .rc6 k.length = true) :
    rc6ExpansionRule k := by
  have hturns : 3 * max (k.length / 4) 44 = 132 := by
    simp only [keyLengthOk, Bool.or_eq_true, beq_iff_eq] at hk
    omega
  refine ⟨fun n => (rc6MixAfter k n).s, fun n => (rc6MixAfter k n).l,
    fun n => (rc6MixAfter k n).a, fun n => (rc6MixAfter k n).b, ?schedule, length_rc6Init _ _, rfl,
    fun i hi => rc6Init_getD_succ rc6P (by omega), rfl, rfl, rfl, fun n _ => ?turn⟩
  case schedule => rw [expandKey, expandBlock, rc6Expand_eq_rc6MixAfter, hturns]
  case turn =>
    obtain ⟨hi, hj⟩ := rc6MixAfter_indices k n
    simp only [rc6MixAfter_succ, ← hi, ← hj]
    exact ⟨rfl, rfl, rfl, rfl⟩

end Sys2Proof.Machine
end

section
/-! SUPPORT. The key expansion of Blowfish (45_blowfish.md R256). -/

namespace Sys2Proof.Machine

/-! ## Pairs of words in a joined table -/

theorem setPair_append_left {l : List Word} (l' : List Word) {i : Nat} (a b : Word)
    (hi : i + 1 < l.length) : setPair (l ++ l') i a b = setPair l i a b ++ l' := by
  rw [setPair, List.set_append_left _ _ (by omega), List.set_append_left _ _ (by simpa using hi)]
  rfl

theorem setPair_append_right {l : List Word} (l' : List Word) {i : Nat} (a b : Word)
    (hi : l.length ≤ i) : setPair (l ++ l') i a b = l ++ setPair l' (i - l.length) a b := by
  rw [setPair, List.set_append_right _ _ hi, List.set_append_right _ _ (by omega),
    Nat.sub_add_comm hi]
  rfl

@[simp] theorem length_setPair (l : List Word) (i : Nat) (a b : Word) :
    (setPair l i a b).length = l.length := by simp [setPair]

/-! ## The encipherings, numbered through the five tables -/

/-- What the n-th of the 521 encipherings replaces. -/
def bfPut (n : Nat) : BfTables → Word → Word → BfTables :=
  if n < 9 then bfPutP n
  else if n < 137 then bfPutS0 (n - 9)
  else if n < 265 then bfPutS1 (n - 137)
  else if n < 393 then bfPutS2 (n - 265)
  else bfPutS3 (n - 393)

/-- A replacement keeps the lengths of the tables. -/
theorem bfPut_shapeOk (n : Nat) {t : BfTables} (a b : Word) (h : (BlockSchedule.bf t).shapeOk) :
    (BlockSchedule.bf (bfPut n t a b)).shapeOk := by
  unfold bfPut
  split_ifs <;>
    simpa only [BlockSchedule.shapeOk, bfPutP, bfPutS0, bfPutS1, bfPutS2, bfPutS3, length_setPair]
      using h

/-- The n-th enciphering replaces the words 2n and 2n + 1 of the 1042. -/
theorem bfFlat_bfPut {n : Nat} {t : BfTables} (a b : Word) (h : (BlockSchedule.bf t).shapeOk)
    (hn : n < 521) : bfFlat (bfPut n t a b) = setPair (bfFlat t) (2 * n) a b := by
  obtain ⟨hp, h0, h1, h2, h3⟩ := h
  unfold bfPut bfFlat
  split_ifs
  · rw [setPair_append_left, setPair_append_left, setPair_append_left, setPair_append_left]
    · rfl
    all_goals simp only [List.length_append, hp, h0, h1, h2]; omega
  · have hindex : 2 * n - t.p.length = 2 * (n - 9) := by omega
    rw [setPair_append_left, setPair_append_left, setPair_append_left, setPair_append_right, hindex]
    · rfl
    all_goals simp only [List.length_append, hp, h0, h1, h2]; omega
  · have hindex : 2 * n - (t.p ++ t.s0).length = 2 * (n - 137) := by
      rw [List.length_append]; omega
    rw [setPair_append_left, setPair_append_left, setPair_append_right, hindex]
    · rfl
    all_goals simp only [List.length_append, hp, h0, h1, h2]; omega
  · have hindex : 2 * n - (t.p ++ t.s0 ++ t.s1).length = 2 * (n - 265) := by
      simp only [List.length_append]; omega
    rw [setPair_append_left, setPair_append_right, hindex]
    · rfl
    all_goals simp only [List.length_append, hp, h0, h1, h2]; omega
  · have hindex : 2 * n - (t.p ++ t.s0 ++ t.s1 ++ t.s2).length = 2 * (n - 393) := by
      simp only [List.length_append]; omega
    rw [setPair_append_right, hindex]
    · rfl
    simp only [List.length_append]; omega

/-! ## The loop -/

/-- `m + n` replacements are m of them and then n. -/
theorem bfFill_add (put : Nat → BfTables → Word → Word → BfTables) (m n i : Nat) (x : BfWork) :
    bfFill put (m + n) i x = bfFill put n (i + m) (bfFill put m i x) := by
  induction m generalizing i x with
  | zero => rw [Nat.zero_add]; rfl
  | succ m ih => rw [Nat.add_right_comm, bfFill, ih, Nat.add_right_comm i, Nat.add_assoc]; rfl

/-- Replacements depend only on what they put at the indices they take. -/
theorem bfFill_shift {put put' : Nat → BfTables → Word → Word → BfTables} {n : Nat} (i j : Nat)
    (x : BfWork) (h : ∀ m, m < n → put (i + m) = put' (j + m)) :
    bfFill put n i x = bfFill put' n j x := by
  induction n generalizing i j x with
  | zero => rfl
  | succ n ih =>
    rw [bfFill, bfFill, show put i = put' j from h 0 (by omega)]
    refine ih (i + 1) (j + 1) _ fun m hm => ?_
    rw [Nat.add_right_comm i, Nat.add_right_comm j]
    exact h (m + 1) (by omega)

/-- The tables and the chaining value before the first enciphering: the key, cycled, is on P. -/
def bfWorkStart (k : Bytes) : BfWork := ({ bfInit with p := bfMixKey k bfInit.p }, (0, 0))

/-- The tables and the chaining value after n encipherings. -/
def bfWorkAfter (k : Bytes) (n : Nat) : BfWork := bfFill bfPut n 0 (bfWorkStart k)

theorem bfWorkAfter_succ (k : Bytes) (n : Nat) :
    bfWorkAfter k (n + 1) = bfReplace (bfPut n) (bfWorkAfter k n) := by
  rw [bfWorkAfter, bfFill_add, Nat.zero_add]
  rfl

/-- The five loops of `bf_expand(K)` are one loop of 521 encipherings. -/
theorem bfExpandTables_eq_bfWorkAfter (k : Bytes) :
    bfExpandTables k = (bfWorkAfter k 521).1 := by
  have hP (x : BfWork) : bfFill bfPutP 9 0 x = bfFill bfPut 9 0 x :=
    bfFill_shift 0 0 x fun m hm => by simp [bfPut, hm]
  have hS0 (x : BfWork) : bfFill bfPutS0 128 0 x = bfFill bfPut 128 9 x :=
    bfFill_shift 0 9 x fun m hm => by
      simp [bfPut, show 9 + m < 137 by omega]
  have hS1 (x : BfWork) : bfFill bfPutS1 128 0 x = bfFill bfPut 128 137 x :=
    bfFill_shift 0 137 x fun m hm => by
      simp [bfPut, show ¬137 + m < 9 by omega, show 137 + m < 265 by omega]
  have hS2 (x : BfWork) : bfFill bfPutS2 128 0 x = bfFill bfPut 128 265 x :=
    bfFill_shift 0 265 x fun m hm => by
      simp [bfPut, show ¬265 + m < 9 by omega, show ¬265 + m < 137 by omega,
        show 265 + m < 393 by omega]
  have hS3 (x : BfWork) : bfFill bfPutS3 128 0 x = bfFill bfPut 128 393 x :=
    bfFill_shift 0 393 x fun m hm => by
      simp [bfPut, show ¬393 + m < 9 by omega, show ¬393 + m < 137 by omega,
        show ¬393 + m < 265 by omega]
  rw [bfExpandTables, hP, hS0, hS1, hS2, hS3, bfWorkAfter, bfFill_add bfPut 393 128,
    bfFill_add bfPut 265 128, bfFill_add bfPut 137 128, bfFill_add bfPut 9 128]
  rfl

/-! ## The shape of the tables -/

theorem bfInit_shapeOk : (BlockSchedule.bf bfInit).shapeOk := by
  refine ⟨?_, ?_, ?_, ?_, ?_⟩ <;> decide +kernel

theorem bfWorkAfter_shapeOk (k : Bytes) (n : Nat) :
    (BlockSchedule.bf (bfWorkAfter k n).1).shapeOk := by
  induction n with
  | zero =>
    obtain ⟨-, hboxes⟩ := bfInit_shapeOk
    exact ⟨by simp [bfWorkAfter, bfFill, bfWorkStart, bfMixKey], hboxes⟩
  | succ n ih =>
    rw [bfWorkAfter_succ]
    exact bfPut_shapeOk n _ _ ih

theorem bfExpansionRule_all (k : Bytes) : bfExpansionRule k := by
  refine ⟨fun n => (bfWorkAfter k n).1, fun n => (bfWorkAfter k n).2, ?schedule, rfl,
    (bfWorkAfter_shapeOk k 0).1, fun i hi => ?key, rfl, rfl, rfl, rfl, fun n hn => ?turn⟩
  case schedule => rw [expandKey, expandBlock, bfExpand, bfExpandTables_eq_bfWorkAfter]
  case key => simp [bfWorkAfter, bfFill, bfWorkStart, bfMixKey, bfKeyWord, hi]
  case turn =>
    simp only [bfWorkAfter_succ]
    have hshape := bfWorkAfter_shapeOk k n
    exact ⟨rfl, bfPut_shapeOk n _ _ hshape, bfFlat_bfPut _ _ hshape hn⟩

end Sys2Proof.Machine
end

section
/-! SUPPORT. The key expansion of IDEA (46_idea.md R282 to R285). -/

namespace Sys2Proof.Machine

/-! ## The key number -/

/-- Appending a byte to a number is multiplication by 256 and addition. -/
theorem shiftLeft_or_byte (x : BitVec 128) (b : Byte) :
    (x <<< 8) ||| b.setWidth 128 = x * 256 + b.setWidth 128 := by
  have hdisjoint : x <<< 8 &&& b.setWidth 128 = 0 := by
    refine BitVec.eq_of_getLsbD_eq fun i _ => ?_
    by_cases hi : i < 8
    · simp [hi]
    · simp [BitVec.getLsbD_of_ge b i (by omega)]
  rw [← BitVec.add_eq_or_of_and_eq_zero _ _ hdisjoint, BitVec.shiftLeft_eq_mul_twoPow]
  rfl

/-- The number that a byte string writes, its first byte the most significant. -/
theorem ideaKeyNumber_eq (k : Bytes) : ideaKeyNumber k = BitVec.ofNat 128
    ((List.range k.length).map fun m =>
      (byteAt k m).toNat * 2 ^ (8 * (k.length - 1 - m))).sum := by
  induction k using List.reverseRecOn with
  | nil => rfl
  | append_singleton k b ih =>
    have hlast : byteAt (k ++ [b]) k.length = b := by simp [byteAt]
    have hfirst : ((List.range k.length).map fun m =>
        (byteAt (k ++ [b]) m).toNat * 2 ^ (8 * (k.length - m))) =
        (List.range k.length).map fun m =>
          (byteAt k m).toNat * 2 ^ (8 * (k.length - 1 - m)) * 256 := by
      refine List.map_congr_left fun m hm => ?_
      have hm : m < k.length := List.mem_range.mp hm
      rw [byteAt, List.getD_append _ _ _ _ hm, ← byteAt, Nat.mul_assoc,
        show 8 * (k.length - m) = 8 * (k.length - 1 - m) + 8 by omega, Nat.pow_add]
    have hnumber : ideaKeyNumber (k ++ [b]) = (ideaKeyNumber k <<< 8) ||| b.setWidth 128 := by
      simp [ideaKeyNumber]
    rw [hnumber, shiftLeft_or_byte, ih, List.length_append, List.length_singleton,
      List.range_succ, List.map_append, List.sum_append, Nat.add_sub_cancel, hfirst,
      List.sum_map_mul_right]
    simp [hlast, BitVec.ofNat_add, BitVec.ofNat_mul]

/-! ## The encryption subkeys -/

/-- Rotations left add up. -/
theorem rotateLeft_rotateLeft (x : BitVec 128) (m n : Nat) :
    (x.rotateLeft m).rotateLeft n = x.rotateLeft (m + n) := by
  refine BitVec.eq_of_getLsbD_eq fun i hi => ?_
  rw [getLsbD_rotateLeft_mod _ _ hi, getLsbD_rotateLeft_mod _ _ hi,
    getLsbD_rotateLeft_mod _ _ (Nat.mod_lt _ (by decide))]
  congr 1
  omega

theorem rotateLeft_zero (x : BitVec 128) : x.rotateLeft 0 = x :=
  BitVec.eq_of_getLsbD_eq fun i hi => by simp [hi]

theorem length_ideaKeyWords (x : BitVec 128) : (ideaKeyWords x).length = 8 := by
  simp [ideaKeyWords]

theorem length_ideaGroups (n : Nat) (x : BitVec 128) : (ideaGroups n x).length = 8 * n := by
  induction n generalizing x with
  | zero => rfl
  | succ n ih => rw [ideaGroups, List.length_append, length_ideaKeyWords, ih]; omega

/-- Word i of the groups is 16 bits of the key number, rotated once for every 8 words before it. -/
theorem ideaGroups_getD {n i : Nat} (x : BitVec 128) (hi : i < 8 * n) :
    (ideaGroups n x).getD i 0 =
      (x.rotateLeft (25 * (i / 8))).extractLsb' (112 - 16 * (i % 8)) 16 := by
  induction n generalizing x i with
  | zero => omega
  | succ n ih =>
    rw [ideaGroups]
    by_cases hfirst : i < 8
    · rw [List.getD_append _ _ _ _ (by rwa [length_ideaKeyWords]), Nat.div_eq_of_lt hfirst,
        Nat.mod_eq_of_lt hfirst]
      simp [ideaKeyWords, hfirst, rotateLeft_zero]
    · obtain ⟨j, rfl⟩ : ∃ j, i = j + 8 := ⟨i - 8, by omega⟩
      rw [List.getD_append_right _ _ _ _ (by rw [length_ideaKeyWords]; omega), length_ideaKeyWords,
        Nat.add_sub_cancel, ih _ (by omega), rotateLeft_rotateLeft, Nat.add_mod_right,
        Nat.add_div_right _ (by decide), Nat.mul_succ, Nat.add_comm 25]

theorem length_ideaEncKeys (k : Bytes) : (ideaEncKeys k).length = 52 := by
  rw [ideaEncKeys, List.length_take, length_ideaGroups]
  rfl

theorem keyAt_ideaEncKeys (k : Bytes) {n : Nat} (hlo : 1 ≤ n) (hhi : n ≤ 52) :
    keyAt (ideaEncKeys k) n = ((ideaKeyNumber k).rotateLeft (25 * ((n - 1) / 8))).extractLsb'
      (112 - 16 * ((n - 1) % 8)) 16 := by
  rw [← ideaGroups_getD (n := 7) _ (by omega), keyAt, ideaEncKeys, List.getD_eq_getElem?_getD,
    List.getElem?_take_of_lt (by omega), ← List.getD_eq_getElem?_getD]

/-! ## The decryption subkeys -/

/-- Six subkeys to a round, and four in the output transformation. -/
theorem length_ideaDecRound (z : List Half) (r : Nat) :
    (ideaDecRound z r).length = if r ≤ 8 then 6 else 4 := by
  unfold ideaDecRound
  split_ifs <;> rfl

theorem length_ideaDecKeys (z : List Half) : (ideaDecKeys z).length = 52 := by
  simp [ideaDecKeys, length_ideaDecRound, List.range']

/-- The rounds before round r hold six subkeys each. -/
theorem length_flatMap_ideaDecRound (z : List Half) {n : Nat} (hn : n ≤ 8) :
    ((List.range' 1 n).flatMap (ideaDecRound z)).length = 6 * n := by
  induction n with
  | zero => rfl
  | succ n ih =>
    rw [List.range'_concat, List.flatMap_append, List.length_append, ih (by omega),
      List.flatMap_singleton, length_ideaDecRound, if_pos (by omega)]
    rfl

/-- Subkey 6(r - 1) + m + 1 of the table is entry m of round r. -/
theorem keyAt_ideaDecKeys (z : List Half) {r i : Nat} (m : Nat) (hlo : 1 ≤ r) (hhi : r ≤ 9)
    (hm : m < 4 ∨ r ≤ 8 ∧ m < 6) (hi : i = 6 * (r - 1) + m + 1) :
    keyAt (ideaDecKeys z) i = (ideaDecRound z r).getD m 0 := by
  subst hi
  obtain ⟨n, rfl⟩ : ∃ n, r = 1 + n := ⟨r - 1, by omega⟩
  have hrounds : List.range' 1 9 =
      List.range' 1 n ++ (1 + n) :: List.range' (1 + n + 1) (8 - n) := by
    have hsplit := List.range'_append_1 (s := 1) (m := n) (n := 8 - n + 1)
    rwa [show n + (8 - n + 1) = 9 by omega, List.range'_succ, eq_comm] at hsplit
  have hround : m < (ideaDecRound z (1 + n)).length := by
    rw [length_ideaDecRound]
    split_ifs <;> omega
  have hbefore := length_flatMap_ideaDecRound z (n := n) (by omega)
  rw [keyAt, ideaDecKeys, hrounds, List.flatMap_append, List.flatMap_cons,
    List.getD_append_right _ _ _ _ (by omega), hbefore, List.getD_append _ _ _ _ (by omega)]
  congr 1
  omega

/-- The entries of a round, by R284: the additive inverses change places but at the ends. -/
theorem ideaDecRound_entries (z : List Half) (r : Nat) :
    let e := 6 * (9 - r)
    let ends := r = 1 ∨ r = 9
    (ideaDecRound z r).getD 0 0 = ideaInv (keyAt z (e + 1)) ∧
    (ideaDecRound z r).getD 1 0 = 0 - (if ends then keyAt z (e + 2) else keyAt z (e + 3)) ∧
    (ideaDecRound z r).getD 2 0 = 0 - (if ends then keyAt z (e + 3) else keyAt z (e + 2)) ∧
    (ideaDecRound z r).getD 3 0 = ideaInv (keyAt z (e + 4)) ∧
    (r ≤ 8 → (ideaDecRound z r).getD 4 0 = keyAt z (6 * (8 - r) + 5) ∧
      (ideaDecRound z r).getD 5 0 = keyAt z (6 * (8 - r) + 6)) := by
  by_cases hends : r = 1 ∨ r = 9
  · simp +contextual [ideaDecRound, hends, ideaNeg]
  · simp +contextual [ideaDecRound, hends, ideaNeg]

theorem ideaExpansionRule_of_length {k : Bytes} (hk : keyLengthOk .idea k.length = true) :
    ideaExpansionRule k := by
  have hlen : k.length = 16 := by simpa [keyLengthOk] using hk
  have hkey := ideaKeyNumber_eq k
  rw [hlen] at hkey
  refine ⟨_, _, rfl, length_ideaEncKeys k, length_ideaDecKeys _, fun n hlo hhi => ?encryption,
    fun r hlo hhi => ?decryption⟩
  case encryption => rw [keyAt_ideaEncKeys k hlo hhi, hkey]
  case decryption =>
    have hat {i : Nat} (m : Nat) (hm : m < 4 ∨ r ≤ 8 ∧ m < 6) (hi : i = 6 * (r - 1) + m + 1) :=
      keyAt_ideaDecKeys (ideaEncKeys k) m hlo hhi hm hi
    obtain ⟨h0, h1, h2, h3, htail⟩ := ideaDecRound_entries (ideaEncKeys k) r
    refine ⟨?_, ?_, ?_, ?_, fun hr => ⟨?_, ?_⟩⟩
    · rw [hat 0 (by omega) (by omega), h0]
    · rw [hat 1 (by omega) (by omega), h1]
    · rw [hat 2 (by omega) (by omega), h2]
    · rw [hat 3 (by omega) (by omega), h3]
    · rw [hat 4 (by omega) (by omega), (htail hr).1]
    · rw [hat 5 (by omega) (by omega), (htail hr).2]

end Sys2Proof.Machine
end

section
/-! SUPPORT. The key expansion of ARC4 (47_arc4.md R311). -/

namespace Sys2Proof.Machine

/-! ## A swap in the table -/

theorem arc4At_arc4Swap_right {t : List Byte} (ht : t.length = 256) (x y : Byte) :
    arc4At (arc4Swap t x y) y = arc4At t x := by
  simp [arc4At, arc4Swap, ht, y.isLt]

theorem arc4At_arc4Swap_left {t : List Byte} (ht : t.length = 256) (x y : Byte) :
    arc4At (arc4Swap t x y) x = arc4At t y := by
  by_cases h : y = x
  · rw [h, arc4At_arc4Swap_right ht]
  · have hne : y.toNat ≠ x.toNat := fun he => h (BitVec.eq_of_toNat_eq he)
    simp [arc4At, arc4Swap, ht, hne, x.isLt]

/-- A swap leaves every other entry. -/
theorem arc4At_arc4Swap_of_ne (t : List Byte) {x y z : Byte} (hx : z ≠ x) (hy : z ≠ y) :
    arc4At (arc4Swap t x y) z = arc4At t z := by
  have hx : x.toNat ≠ z.toNat := fun he => hx (BitVec.eq_of_toNat_eq he).symm
  have hy : y.toNat ≠ z.toNat := fun he => hy (BitVec.eq_of_toNat_eq he).symm
  simp [arc4At, arc4Swap, hx, hy]

theorem arc4At_arc4Identity (x : Byte) : arc4At arc4Identity x = x := by
  simp [arc4At, arc4Identity, x.isLt]

/-! ## The loop -/

/-- The table S and the index j after n turns of the key-scheduling loop. -/
def arc4MixAfter (k : Bytes) : Nat → List Byte × Byte
  | 0 => (arc4Identity, 0)
  | n + 1 =>
    let (t, j) := arc4MixAfter k n
    let x := BitVec.ofNat 8 n
    let j := j + arc4At t x + byteAt k (n % k.length)
    (arc4Swap t x j, j)

/-- The loop from turn n on ends where its turns, counted from the first, end. -/
theorem arc4Mix_eq_arc4MixAfter (k : Bytes) (m n : Nat) :
    arc4Mix k m n (arc4MixAfter k n).1 (arc4MixAfter k n).2 = (arc4MixAfter k (n + m)).1 := by
  induction m generalizing n with
  | zero => rfl
  | succ m ih => rw [Nat.add_comm m, ← Nat.add_assoc, ← ih (n + 1), Nat.add_comm 1]; rfl

theorem length_arc4MixAfter (k : Bytes) (n : Nat) : (arc4MixAfter k n).1.length = 256 := by
  induction n with
  | zero => simp [arc4MixAfter, arc4Identity]
  | succ n ih => rw [arc4MixAfter, length_arc4Swap, ih]

theorem arc4ExpansionRule_all (k : Bytes) : arc4ExpansionRule k := by
  refine ⟨fun n => (arc4MixAfter k n).1, fun n => (arc4MixAfter k n).2, ?state, rfl,
    arc4At_arc4Identity, fun n _ => length_arc4MixAfter k n, fun n _ => ?turn⟩
  case state =>
    exact congrArg (fun t => Schedule.arc4 ⟨t, 0, 0⟩) (arc4Mix_eq_arc4MixAfter k 256 0)
  case turn =>
    have hlen := length_arc4MixAfter k n
    exact ⟨rfl, arc4At_arc4Swap_left hlen _ _, arc4At_arc4Swap_right hlen _ _,
      fun x hx hj => arc4At_arc4Swap_of_ne _ hx hj⟩

end Sys2Proof.Machine
end

section
/-! SUPPORT. The statement of 41_key_schedule.md about what the key expansions compute. -/

namespace Sys2Proof.Machine

/-- Settles O28, cipher by cipher. -/
theorem expansionsComputeTheirTables : Obligations.ExpansionsComputeTheirTables :=
  ⟨fun _ => aesExpansionRule_of_length, fun _ => rc6ExpansionRule_of_length,
    fun k _ => bfExpansionRule_all k, fun _ => ideaExpansionRule_of_length,
    fun k _ => arc4ExpansionRule_all k⟩

end Sys2Proof.Machine
end

section
/-! SUPPORT. The ARC4 engine: the table is a permutation at every point (47_arc4.md R310), what a keystream
step leaves in the table (R313), and the keystream byte by byte (R314, R315). -/

namespace Sys2Proof.Machine

/-! ## The table is a permutation -/

/-- A swap rearranges the entries of a table. -/
theorem arc4Swap_perm {t : List Byte} (ht : t.length = 256) (x y : Byte) :
    (arc4Swap t x y).Perm t := by
  have hx : x.toNat < t.length := ht ▸ x.isLt
  have hy : y.toNat < t.length := ht ▸ y.isLt
  rw [arc4Swap, arc4At, arc4At, List.getD_eq_getElem _ _ hx, List.getD_eq_getElem _ _ hy]
  exact List.set_set_perm hx hy

theorem nodup_arc4Identity : arc4Identity.Nodup := by
  have hnumbers : arc4Identity.map BitVec.toNat = List.range 256 := by decide +kernel
  exact .of_map BitVec.toNat (hnumbers ▸ List.nodup_range)

theorem arc4MixAfter_isPermutation (k : Bytes) (n : Nat) :
    (Arc4State.mk (arc4MixAfter k n).1 0 0).isPermutation := by
  refine ⟨length_arc4MixAfter k n, ?_⟩
  induction n with
  | zero => exact nodup_arc4Identity
  | succ n ih => exact (arc4Swap_perm (length_arc4MixAfter k n) _ _).nodup_iff.mpr ih

/-- The key schedule is the loop's 256 turns, both indices 0 (47_arc4.md R311). -/
theorem arc4Ksa_eq_arc4MixAfter (k : Bytes) : arc4Ksa k = ⟨(arc4MixAfter k 256).1, 0, 0⟩ :=
  congrArg (fun t => Arc4State.mk t 0 0) (arc4Mix_eq_arc4MixAfter k 256 0)

theorem arc4Ksa_isPermutation (k : Bytes) : (arc4Ksa k).isPermutation :=
  arc4Ksa_eq_arc4MixAfter k ▸ arc4MixAfter_isPermutation k 256

theorem arc4Next_isPermutation {st : Arc4State} (h : st.isPermutation) :
    (arc4Next st).isPermutation := by
  obtain ⟨hlen, hnodup⟩ := h
  have hswap := arc4Swap_perm hlen (st.i + 1) (st.j + arc4At st.s (st.i + 1))
  exact ⟨hswap.length_eq.trans hlen, hswap.nodup_iff.mpr hnodup⟩

/-! ## KSNEXT -/

theorem exec_ksnext {s : State} {st : Arc4State} (h : s.sched = some (.arc4 st)) :
    exec .ksnext s =
      .next ((s.setKsbyte (arc4Out (arc4Next st))).setSched (some (.arc4 (arc4Next st)))).succeed := by
  simp [exec, execKsnext, h]

/-- From a store with an ARC4 state, n KSNEXT commands run and leave its n-th successor. -/
theorem exists_ksnexts {u : State} {st : Arc4State} (h : u.sched = some (.arc4 st)) (n : Nat) :
    ∃ v, ksnexts n u v ∧ v.sched = some (.arc4 (arc4Next^[n] st)) := by
  induction n with
  | zero => exact ⟨u, rfl, h⟩
  | succ n ih =>
    obtain ⟨v, hrun, hv⟩ := ih
    refine ⟨_, ⟨v, hrun, exec_ksnext hv⟩, ?_⟩
    rw [Function.iterate_succ_apply']
    rfl

/-- The last of n + 1 KSNEXT commands shows the byte of the (n + 1)-th state in KSBYTE. -/
theorem exists_ksnexts_ksbyte {u : State} {st : Arc4State} (h : u.sched = some (.arc4 st)) (n : Nat) :
    ∃ v, ksnexts (n + 1) u v ∧ v.ksbyte = arc4Out (arc4Next^[n + 1] st) := by
  obtain ⟨v, hrun, hv⟩ := exists_ksnexts h n
  refine ⟨_, ⟨v, hrun, exec_ksnext hv⟩, ?_⟩
  rw [Function.iterate_succ_apply']
  rfl

/-! ## The keystream -/

/-- Byte m of the result is byte m of the message with the (m + 1)-th keystream byte. -/
theorem byteAt_arc4Xor (st : Arc4State) {d : Bytes} {m : Nat} (hm : m < d.length) :
    byteAt (arc4Xor st d) m = byteAt d m ^^^ arc4Out (arc4Next^[m + 1] st) := by
  induction d generalizing st m with
  | nil => exact absurd hm (Nat.not_lt_zero m)
  | cons b d ih =>
    cases m with
    | zero => rfl
    | succ m => exact ih (arc4Next st) (Nat.lt_of_succ_lt_succ hm)

/-- The keystream does not depend on the message, so that a second exclusive-or takes it off again. -/
theorem arc4Xor_arc4Xor (st : Arc4State) (d : Bytes) : arc4Xor st (arc4Xor st d) = d := by
  induction d generalizing st with
  | nil => rfl
  | cons b d ih => rw [arc4Xor, arc4Xor, ih, BitVec.xor_assoc, BitVec.xor_self, BitVec.xor_zero]

/-! ## RUN ARC4 -/

theorem exec_runArc4_accepted (d : Dir) {s : State} (hfits : s.msglen.toNat < s.params.bufBytes)
    (hlo : 1 ≤ s.keylen.toNat) (hhi : s.keylen.toNat ≤ 256) :
    exec (.runArc4 d) s = .next (runResult (arc4Crypt s.key s.message) s) := by
  simp [exec, execRunArc4, State.tooLong, keyLengthOk, hfits, hlo, hhi]

theorem exec_runArc4_rejected (d : Dir) {s : State} (hfits : s.msglen.toNat < s.params.bufBytes)
    (hlen : s.keylen.toNat = 0 ∨ 256 < s.keylen.toNat) :
    exec (.runArc4 d) s = .next (s.raise .run .invalidKeyLength s.keylenInfo) := by
  have hbad : keyLengthOk .arc4 s.keylen.toNat = false := by
    simp only [keyLengthOk, Bool.and_eq_false_iff, decide_eq_false_iff_not]
    omega
  simp [exec, execRunArc4, State.tooLong, hfits, hbad]

/-! ## The statements -/

/-- Settles O60: a step only exchanges two entries. -/
theorem arc4TableStaysAPermutation : Obligations.Arc4TableStaysAPermutation :=
  ⟨arc4Ksa_isPermutation, fun _ => arc4Next_isPermutation⟩

/-- Settles O59: both applications add the same keystream, and DIR selects nothing (48_pipeline.md R336). -/
theorem arc4IsSelfInverse : Obligations.Arc4IsSelfInverse :=
  ⟨fun k d => arc4Xor_arc4Xor (arc4Ksa k) d, length_arc4Crypt, fun _ => rfl⟩

/-- Settles O35, by what a swap leaves at its two indices and at every other. -/
theorem ksnextTakesOneKeystreamStep : Obligations.KsnextTakesOneKeystreamStep := by
  intro s st hst hlen
  refine ⟨_, arc4Next st, exec_ksnext hst, endedWell_succeed _, rfl, ?_, rfl, rfl,
    arc4At_arc4Swap_left hlen _ _, arc4At_arc4Swap_right hlen _ _,
    fun x hi hj => arc4At_arc4Swap_of_ne _ hi hj, rfl, ?_⟩
  · rw [arc4Next, length_arc4Swap, hlen]
  · simp [State.sameOutsideCommand, State.memSame]

/-- Settles O44: the run succeeds with the keystream on the message for the key lengths 1 to 256, and
raises the error for the others. -/
theorem runArc4XorsTheKeystream : Obligations.RunArc4XorsTheKeystream := by
  intro d s _ hwf hfits
  refine ⟨fun hlo hhi => ?accepted, fun w hpending hbad => ?rejected⟩
  case accepted =>
    have hlen : (arc4Crypt s.key s.message).length = s.msglen.toNat := by simp [State.message]
    refine ⟨_, exec_runArc4_accepted d hfits hlo hhi, endedWell_succeed _, ?outlen, ?output,
      fun m u hm hu => ?keystream, fun a ha => ?frame, rfl, ?_⟩
    case outlen => rw [runResult_outlen, hlen, BitVec.ofNat_toNat, BitVec.setWidth_eq]
    case output =>
      have hread := Memory.readBytes_writeBytes hwf obufBase (arc4Crypt s.key s.message)
      rwa [hlen] at hread
    case keystream =>
      obtain ⟨v, hrun, hv⟩ := exists_ksnexts_ksbyte hu m
      refine ⟨v, hrun, ?_⟩
      rw [runResult_mem, Memory.read_writeBytes_inside hwf _ _ (hlen.symm ▸ hm), hv, arc4Crypt,
        byteAt_arc4Xor _ (by simpa [State.message] using hm), State.message,
        Memory.byteAt_readBytes _ _ _ _ hm, State.key]
    case frame => exact Memory.read_writeBytes_outside _ _ _ (hlen.symm ▸ ha)
    · simp [State.sameOutsideCommand]
  case rejected =>
    refine ⟨_, exec_runArc4_rejected d hfits hbad, ?_, ?_, rfl, fun a ha => ?frame,
      sameOutsideCommand_raise .., rfl, rfl⟩
    · rw [← keylenInfo_eq]
      exact endedWith_raise hpending ..
    · simp +contextual [State.noOutput, Memory.read_zeroFill]
    case frame => exact State.read_errorEffect .run s ha

end Sys2Proof.Machine
end

section
/-! SUPPORT. Blowfish and ARC4 use the key cyclically (45_blowfish.md R256, 47_arc4.md R311). -/

namespace Sys2Proof.Machine

/-- A key written twice, read cyclically, gives the bytes of the key read cyclically. -/
theorem byteAt_append_self_mod (k : Bytes) (i : Nat) :
    byteAt (k ++ k) (i % (k ++ k).length) = byteAt k (i % k.length) := by
  obtain rfl | hk := eq_or_ne k []
  · rfl
  have hpos : 0 < k.length := List.length_pos_iff.mpr hk
  have hmod : i % k.length = i % (k ++ k).length % k.length :=
    (Nat.mod_mod_of_dvd i (by simp)).symm
  have hlt : i % (k ++ k).length < k.length + k.length := by
    simpa using Nat.mod_lt i (show 0 < (k ++ k).length by simp [hpos])
  rw [hmod, byteAt, byteAt]
  generalize i % (k ++ k).length = m at hlt
  by_cases hfirst : m < k.length
  · rw [List.getD_append _ _ _ _ hfirst, Nat.mod_eq_of_lt hfirst]
  · rw [List.getD_append_right _ _ _ _ (by omega), Nat.mod_eq_sub_mod (by omega),
      Nat.mod_eq_of_lt (by omega)]

theorem bfKeyWord_append_self (k : Bytes) (i : Nat) : bfKeyWord (k ++ k) i = bfKeyWord k i := by
  simp only [bfKeyWord, byteAt_append_self_mod]

theorem bfExpand_append_self (k : Bytes) : bfExpand (k ++ k) = bfExpand k := by
  have hmix (p : List Word) : bfMixKey (k ++ k) p = bfMixKey k p := by
    simp only [bfMixKey, bfKeyWord_append_self]
  simp only [bfExpand, bfExpandTables, hmix]

theorem arc4MixAfter_append_self (k : Bytes) (n : Nat) :
    arc4MixAfter (k ++ k) n = arc4MixAfter k n := by
  induction n with
  | zero => rfl
  | succ n ih => simp only [arc4MixAfter, ih, byteAt_append_self_mod]

/-- Settles O29: both expansions read the key only at an index modulo its length. -/
theorem cyclicKeysGiveTheSameSchedule : Obligations.CyclicKeysGiveTheSameSchedule := by
  refine fun k => ⟨bfExpand_append_self k, ?_⟩
  rw [arc4Ksa_eq_arc4MixAfter, arc4Ksa_eq_arc4MixAfter, arc4MixAfter_append_self]

end Sys2Proof.Machine
end

section
/-! SUPPORT. The schedules that the key expansions build have the shape of 10_state.md R44. -/

namespace Sys2Proof.Machine

theorem aesExpand_shapeOk {k : Bytes} (hk : keyLengthOk .aes k.length = true) :
    (aesExpand k).shapeOk := by
  simp only [keyLengthOk, Bool.or_eq_true, beq_iff_eq] at hk
  simp only [aesExpand, BlockSchedule.shapeOk, length_aesExtend, List.length_map, List.length_range]
  omega

@[simp] theorem length_rc6MixStep_s (c : Nat) (x : Rc6Mix) :
    (rc6MixStep c x).s.length = x.s.length := by simp [rc6MixStep]

theorem length_rc6MixAfter_s (k : Bytes) (n : Nat) : (rc6MixAfter k n).s.length = 44 := by
  induction n with
  | zero => exact length_rc6Init 44 rc6P
  | succ n ih => rw [rc6MixAfter_succ, length_rc6MixStep_s, ih]

theorem rc6Expand_shapeOk (k : Bytes) : (rc6Expand k).shapeOk := by
  rw [rc6Expand_eq_rc6MixAfter]
  exact length_rc6MixAfter_s k _

theorem bfExpand_shapeOk (k : Bytes) : (bfExpand k).shapeOk := by
  rw [bfExpand, bfExpandTables_eq_bfWorkAfter]
  exact bfWorkAfter_shapeOk k 521

theorem ideaExpand_shapeOk (k : Bytes) : (ideaExpand k).shapeOk := ⟨length_ideaEncKeys k, rfl⟩

/-- Every expansion of a key of a length its cipher supports has the cipher's shape. -/
theorem expandKey_shapeOk {c : Cipher} {k : Bytes} (hk : keyLengthOk c k.length = true) :
    (expandKey c k).shapeOk := by
  cases c with
  | aes => exact aesExpand_shapeOk hk
  | rc6 => exact rc6Expand_shapeOk k
  | bf => exact bfExpand_shapeOk k
  | idea => exact ideaExpand_shapeOk k
  | arc4 => exact arc4Ksa_isPermutation k

end Sys2Proof.Machine
end

section
/-! SUPPORT. The output of PAD, UNPAD and RUN fits OBUF (10_state.md R52). -/

namespace Sys2Proof.Machine

/-- BUF_BYTES is a multiple of every block size, so that a message below it can be padded inside it. -/
theorem length_pad_le (c : BlockCipher) {n : Nat} {d : Bytes} (hn : n % 16 = 0) (hd : d.length < n) :
    (pad (blockSize c) d).length ≤ n := by
  rw [length_pad]
  cases c <;> simp only [blockSize] <;> omega

/-- Unpadding only takes bytes off. -/
theorem length_unpad_le {bs : Nat} {d out : Bytes} (h : unpad bs d = some out) :
    out.length ≤ d.length := by
  simp only [unpad] at h
  split_ifs at h
  obtain rfl := Option.some.inj h
  exact List.length_take_le' _ _

/-- Blocks of at most bs bytes join to at most bs bytes a block. -/
theorem length_join_le {bs : Nat} {l : List Bytes} (h : ∀ b ∈ l, b.length ≤ bs) :
    (join l).length ≤ l.length * bs := by
  rw [join, List.length_flatten, ← List.length_map (f := List.length)]
  exact List.sum_le_card_nsmul _ _ (by simpa using h)

/-- The schedules of one cipher all work on its block size (00_scope.md R6). -/
theorem length_encryptBlock (c : BlockCipher) (key b : Bytes) :
    (encryptBlock (expandBlock c key) b).length = blockSize c := by
  cases c <;> rfl

theorem length_decryptBlock (c : BlockCipher) (key b : Bytes) :
    (decryptBlock (expandBlock c key) b).length = blockSize c := by
  cases c <;> rfl

@[simp] theorem length_cbcEncrypt (e : Bytes → Bytes) (prev : Bytes) (l : List Bytes) :
    (cbcEncrypt e prev l).length = l.length := by
  induction l generalizing prev with
  | nil => rfl
  | cons b l ih => rw [cbcEncrypt, List.length_cons, ih, List.length_cons]

@[simp] theorem length_cbcDecrypt (d : Bytes → Bytes) (prev : Bytes) (l : List Bytes) :
    (cbcDecrypt d prev l).length = l.length := by
  induction l generalizing prev with
  | nil => rfl
  | cons b l ih => rw [cbcDecrypt, List.length_cons, ih, List.length_cons]

@[simp] theorem length_chainEncrypt (m : Chain) (k : BlockSchedule) (iv : Bytes) (l : List Bytes) :
    (chainEncrypt m k iv l).length = l.length := by
  cases m <;> simp [chainEncrypt]

@[simp] theorem length_chainDecrypt (m : Chain) (k : BlockSchedule) (iv : Bytes) (l : List Bytes) :
    (chainDecrypt m k iv l).length = l.length := by
  cases m <;> simp [chainDecrypt]

/-- Every block that CBC encryption gives is one that the block function gives. -/
theorem exists_of_mem_cbcEncrypt {e : Bytes → Bytes} {prev b : Bytes} {l : List Bytes}
    (h : b ∈ cbcEncrypt e prev l) : ∃ x, b = e x := by
  induction l generalizing prev with
  | nil => cases h
  | cons a l ih =>
    rcases List.mem_cons.mp h with hb | hb
    · exact ⟨_, hb⟩
    · exact ih hb

/-- Every block that CBC decryption gives is one of the block function, exclusive-or a chaining value. -/
theorem exists_of_mem_cbcDecrypt {d : Bytes → Bytes} {prev b : Bytes} {l : List Bytes}
    (h : b ∈ cbcDecrypt d prev l) : ∃ x y, b = xorBytes (d x) y := by
  induction l generalizing prev with
  | nil => cases h
  | cons a l ih =>
    rcases List.mem_cons.mp h with hb | hb
    · exact ⟨_, _, hb⟩
    · exact ih hb

theorem length_of_mem_chainEncrypt {c : BlockCipher} {m : Chain} {key iv b : Bytes} {l : List Bytes}
    (h : b ∈ chainEncrypt m (expandBlock c key) iv l) : b.length ≤ blockSize c := by
  cases m with
  | ecb =>
    obtain ⟨x, -, rfl⟩ := List.mem_map.mp h
    exact (length_encryptBlock c key x).le
  | cbc =>
    obtain ⟨x, rfl⟩ := exists_of_mem_cbcEncrypt h
    exact (length_encryptBlock c key x).le

theorem length_of_mem_chainDecrypt {c : BlockCipher} {m : Chain} {key iv b : Bytes} {l : List Bytes}
    (h : b ∈ chainDecrypt m (expandBlock c key) iv l) : b.length ≤ blockSize c := by
  cases m with
  | ecb =>
    obtain ⟨x, -, rfl⟩ := List.mem_map.mp h
    exact (length_decryptBlock c key x).le
  | cbc =>
    obtain ⟨x, y, rfl⟩ := exists_of_mem_cbcDecrypt h
    rw [length_xorBytes, length_decryptBlock]
    exact min_le_left _ _

/-- Encryption gives at most the padded message's length. -/
theorem length_runEncrypt_le (c : BlockCipher) (m : Chain) (key iv x : Bytes) :
    (runEncrypt c m (expandBlock c key) iv x).length ≤ (pad (blockSize c) x).length := by
  have hjoin := length_join_le (fun b (hb : b ∈ chainEncrypt m (expandBlock c key) iv
    (split (blockSize c) (pad (blockSize c) x))) => length_of_mem_chainEncrypt hb)
  rw [length_chainEncrypt, length_split] at hjoin
  exact hjoin.trans (Nat.div_mul_le_self _ _)

/-- Decryption gives at most the message's length. -/
theorem length_runDecrypt_le {c : BlockCipher} {m : Chain} {key iv x out : Bytes}
    (h : runDecrypt c m (expandBlock c key) iv x = some out) : out.length ≤ x.length := by
  unfold runDecrypt at h
  split_ifs at h
  have hjoin := length_join_le (fun b (hb : b ∈ chainDecrypt m (expandBlock c key) iv
    (split (blockSize c) x)) => length_of_mem_chainDecrypt hb)
  rw [length_chainDecrypt, length_split] at hjoin
  exact (length_unpad_le h).trans (hjoin.trans (Nat.div_mul_le_self _ _))

theorem length_runMessage_le {c : BlockCipher} {d : Dir} {m : Chain} {key iv x out : Bytes} {n : Nat}
    (hn : n % 16 = 0) (hx : x.length < n)
    (h : runMessage c d m (expandBlock c key) iv x = some out) : out.length ≤ n := by
  cases d with
  | enc =>
    obtain rfl := Option.some.inj h
    exact (length_runEncrypt_le c m key iv x).trans (length_pad_le c hn hx)
  | dec => exact (length_runDecrypt_le h).trans hx.le

end Sys2Proof.Machine
end

section
/-! SUPPORT. Which addresses a memory lists after each of its operations, and that those a command or the
host writes are in the core byte space (20_memory.md R72). -/

namespace Sys2Proof.Machine

/-! ## The addresses that a memory lists -/

theorem Memory.mem_write {m : Memory} {a : Nat} {v : Byte} {c : Host.Cell} (h : c ∈ m.write a v) :
    c ∈ m ∨ c.1 = a := by
  induction m with
  | nil =>
    simp only [Memory.write] at h
    split_ifs at h
    · cases h
    · exact .inr (by simp [List.mem_singleton.mp h])
  | cons d m ih =>
    obtain ⟨b, x⟩ := d
    simp only [Memory.write] at h
    split_ifs at h
    · exact .inl h
    · rcases List.mem_cons.mp h with rfl | h
      exacts [.inr rfl, .inl h]
    · exact .inl (List.mem_cons_of_mem _ h)
    · rcases List.mem_cons.mp h with rfl | h
      exacts [.inr rfl, .inl (List.mem_cons_of_mem _ h)]
    · rcases List.mem_cons.mp h with rfl | h
      exacts [.inl List.mem_cons_self, (ih h).imp_left (List.mem_cons_of_mem _)]

theorem Memory.mem_writeBytes {m : Memory} {a : Nat} {v : Bytes} {c : Host.Cell}
    (h : c ∈ m.writeBytes a v) : c ∈ m ∨ (a ≤ c.1 ∧ c.1 < a + v.length) := by
  induction v generalizing m a with
  | nil => exact .inl h
  | cons x v ih =>
    rw [List.length_cons]
    rcases ih h with hm | hlater
    · rcases Memory.mem_write hm with hm | ha
      · exact .inl hm
      · exact .inr (by omega)
    · exact .inr (by omega)

theorem Memory.mem_zeroFill {m : Memory} {a n : Nat} {c : Host.Cell} (h : c ∈ m.zeroFill a n) :
    c ∈ m := (List.mem_filter.mp h).1

/-! ## The core byte space -/

/-- The core byte space is the bytes that the host writes, and OBUF. -/
theorem inByteSpace_iff (p : Params) (a : Nat) : inByteSpace p a = true ↔
    hostBytes p a ∨ (obufBase ≤ a ∧ a < obufBase + p.bufBytes) := by
  rw [inByteSpace, Bool.or_eq_true, hostRanges_iff]
  simp [inRange]

theorem inByteSpace_of_mem_byteSpace {p : Params} {a : Nat} (h : a ∈ byteSpace p) :
    inByteSpace p a = true := by
  simpa [byteSpace, inByteSpace, inRange, List.mem_range'_1, or_assoc] using h

theorem inByteSpace_of_mem_resetMemory {p : Params} {k : Nat} {c : Host.Cell}
    (h : c ∈ resetMemory p k) : inByteSpace p c.1 = true := by
  unfold resetMemory at h
  split_ifs at h
  · cases h
  · obtain ⟨a, ha, hc⟩ := List.mem_filterMap.mp h
    split_ifs at hc
    obtain rfl := Option.some.inj hc
    exact inByteSpace_of_mem_byteSpace ha

theorem inByteSpace_data {p : Params} {a : Nat} (hlo : dataBase ≤ a) (hhi : a < dataBase + 16) :
    inByteSpace p a = true := by
  refine (inByteSpace_iff p a).mpr (.inl ?_)
  unfold dataBase at hlo hhi
  unfold hostBytes
  omega

theorem inByteSpace_obuf {p : Params} {a : Nat} (hlo : obufBase ≤ a)
    (hhi : a < obufBase + p.bufBytes) : inByteSpace p a = true :=
  (inByteSpace_iff p a).mpr (.inr ⟨hlo, hhi⟩)

/-- Where the address map has a byte region that the host writes, `hostBytes` has one. -/
theorem hostBytes_of_regionOf {p : Params} {off : Nat} (h : regionOf p off = .operandBytes) :
    hostBytes p off := by
  by_cases hwritten : off = 0x00C ∨ off = 0x010 ∨ off = 0x014 ∨ hostBytes p off ∨ off = 0x004 ∨
      off = 0x008
  · rcases hwritten with rfl | rfl | rfl | hbytes | rfl | rfl
    · cases h
    · cases h
    · cases h
    · exact hbytes
    · cases h
    · cases h
  · have hregion := regionOf_ignored hwritten
    rw [h] at hregion
    exact absurd hregion (by decide)

/-- An aligned word at a byte region that the host writes is inside it: its bounds are aligned too. -/
theorem inByteSpace_word {p : Params} {off a : Nat} (hbuf : p.bufBytes % 16 = 0) (h4 : off % 4 = 0)
    (hregion : regionOf p off = .operandBytes) (hlo : off ≤ a) (hhi : a < off + 4) :
    inByteSpace p a = true := by
  have hbytes := hostBytes_of_regionOf hregion
  refine (inByteSpace_iff p a).mpr (.inl ?_)
  unfold hostBytes at hbytes ⊢
  omega

end Sys2Proof.Machine
end

section
/-! SUPPORT. The invariant in two parts, the one about memory, OUTLEN and the schedule store and the one
about the flags; that each operation on the state keeps its part; and that every command, every access and
every step keeps the whole. -/

namespace Sys2Proof.Machine

/-! ## The two parts -/

/-- The part of the invariant about memory, OUTLEN and the schedule store. -/
structure DataOk (p : Params) (m : Memory) (outlen : Half) (sched : Option Schedule) : Prop where
  params : p.wellFormed = true
  memCanonical : m.wf = true
  memInSpace : ∀ c ∈ m, inByteSpace p c.1 = true
  outlenFits : outlen.toNat ≤ p.bufBytes
  schedShape : ∀ k, sched = some k → k.shapeOk

/-- The part of the invariant about STATUS and ERRINFO. -/
structure FlagsOk (pending : Option Word) (done : Bool) (err : BitVec 4) (errinfo : Word) : Prop where
  errProduced : err ∈ producedCodes
  busyClean : pending.isSome = true → done = false ∧ err = 0
  errinfoZero : pending.isSome = false → err = 0 → errinfo = 0
  errinfoReserved : errinfo.extractLsb' 4 4 = 0

theorem inv_iff (s : State) : s.Inv ↔
    DataOk s.params s.mem s.outlen s.sched ∧ FlagsOk s.pending s.done s.err s.errinfo := by
  constructor
  · rintro ⟨hparams, hwf, hspace, herr, hbusy, hzero, hreserved, houtlen, hsched⟩
    exact ⟨⟨hparams, hwf, hspace, houtlen, hsched⟩, ⟨herr, hbusy, hzero, hreserved⟩⟩
  · rintro ⟨⟨hparams, hwf, hspace, houtlen, hsched⟩, ⟨herr, hbusy, hzero, hreserved⟩⟩
    exact ⟨hparams, hwf, hspace, herr, hbusy, hzero, hreserved, houtlen, hsched⟩

theorem wellFormed_iff (p : Params) :
    p.wellFormed = true ↔ p.bufBytes % 16 = 0 ∧ 16 ≤ p.bufBytes ∧ p.bufBytes ≤ 32768 := by
  simp [Params.wellFormed, Params.multipleOk, Params.rangeOk]

/-! ## The operations on memory, OUTLEN and the store -/

section
variable {p : Params} {m : Memory} {outlen : Half} {sched : Option Schedule}

theorem DataOk.setSched (h : DataOk p m outlen sched) {k : Schedule} (hk : k.shapeOk) :
    DataOk p m outlen (some k) :=
  { h with schedShape := fun _ he => Option.some.inj he ▸ hk }

theorem DataOk.discardSched (h : DataOk p m outlen sched) : DataOk p m outlen none :=
  { h with schedShape := fun _ he => nomatch he }

theorem DataOk.setOutlen (h : DataOk p m outlen sched) {n : Half} (hn : n.toNat ≤ p.bufBytes) :
    DataOk p m n sched :=
  { h with outlenFits := hn }

theorem DataOk.writeBytes (h : DataOk p m outlen sched) {a : Nat} {v : Bytes}
    (hv : ∀ b, a ≤ b → b < a + v.length → inByteSpace p b = true) :
    DataOk p (m.writeBytes a v) outlen sched :=
  { h with
    memCanonical := Memory.wf_writeBytes h.memCanonical a v
    memInSpace := fun c hc => (Memory.mem_writeBytes hc).elim (h.memInSpace c)
      fun ⟨hlo, hhi⟩ => hv c.1 hlo hhi }

theorem DataOk.zeroFill (h : DataOk p m outlen sched) (a n : Nat) :
    DataOk p (m.zeroFill a n) outlen sched :=
  { h with
    memCanonical := Memory.wf_zeroFill h.memCanonical a n
    memInSpace := fun c hc => h.memInSpace c (Memory.mem_zeroFill hc) }

/-- An output of at most BUF_BYTES bytes, with its length in OUTLEN. -/
theorem DataOk.writeOutput (h : DataOk p m outlen sched) {v : Bytes} (hv : v.length ≤ p.bufBytes) :
    DataOk p (m.writeBytes obufBase v) (BitVec.ofNat 16 v.length) sched := by
  obtain ⟨-, -, hmax⟩ := (wellFormed_iff p).mp h.params
  refine (h.writeBytes fun b hlo hhi => inByteSpace_obuf hlo (by omega)).setOutlen ?_
  rwa [BitVec.toNat_ofNat, Nat.mod_eq_of_lt (by omega)]

theorem DataOk.resetMemory (h : DataOk p m outlen sched) (k : Nat) :
    DataOk p (resetMemory p k) 0 none := by
  obtain ⟨-, -, hmax⟩ := (wellFormed_iff p).mp h.params
  exact { h.discardSched with
    memCanonical := Memory.wf_resetMemory (by omega) k
    memInSpace := fun c => inByteSpace_of_mem_resetMemory
    outlenFits := Nat.zero_le _ }

end

/-- What an error discards leaves the rest in order (60_exceptions.md R410). -/
theorem DataOk.errorEffect {s : State} (h : DataOk s.params s.mem s.outlen s.sched)
    (pl : ErrorPlace) : DataOk s.params (s.errorEffect pl).mem (s.errorEffect pl).outlen
      (s.errorEffect pl).sched := by
  have hclear := (h.zeroFill obufBase s.params.bufBytes).setOutlen (n := 0) (Nat.zero_le _)
  cases pl with
  | decoding | keyed => exact h
  | expand => exact h.discardSched
  | padding => exact hclear
  | run => exact hclear.discardSched

/-! ## The flags -/

/-- The flags of an idle core without an error: after reset, and after a success. -/
theorem flagsOk_idle (done : Bool) : FlagsOk none done 0 0 :=
  ⟨by decide, nofun, fun _ _ => rfl, by decide⟩

/-- The flags after an error (60_exceptions.md R400, R408, R409). -/
theorem flagsOk_error (done : Bool) (e : CmdError) (w : Word) (len : Half) :
    FlagsOk none done e.code (errinfoWord w len) := by
  obtain ⟨-, hreserved, -⟩ := errinfoWord_fields w len
  refine ⟨?_, nofun, fun _ he => ?_, hreserved⟩
  · cases e <;> decide
  · cases e <;> cases he

section
variable {pending : Option Word} {done : Bool} {err : BitVec 4} {errinfo : Word}

/-- The flags after acceptance (10_state.md R37). -/
theorem FlagsOk.accept (h : FlagsOk pending done err errinfo) (w : Word) :
    FlagsOk (some w) false 0 errinfo :=
  ⟨by decide, fun _ => ⟨rfl, rfl⟩, nofun, h.errinfoReserved⟩

theorem FlagsOk.clearDone (h : FlagsOk pending done err errinfo) (b : Bool) :
    FlagsOk pending (done && b) err errinfo :=
  { h with busyClean := fun hb => by simp [h.busyClean hb] }

end

/-! ## The endings of a command -/

theorem inv_succeed {s : State} (h : DataOk s.params s.mem s.outlen s.sched) : s.succeed.Inv :=
  (inv_iff _).mpr ⟨h, flagsOk_idle true⟩

theorem inv_raise {s : State} (h : DataOk s.params s.mem s.outlen s.sched) (pl : ErrorPlace)
    (e : CmdError) (len : Half) : (s.raise pl e len).Inv := by
  simpa [inv_iff] using ⟨h.errorEffect pl, flagsOk_error true e s.captured len⟩

/-! ## The commands -/

section
variable {s t : State}

theorem inv_expandCommand (hs : DataOk s.params s.mem s.outlen s.sched) {c : Cipher}
    (h : expandCommand c s = .next t) : t.Inv := by
  rcases expandCommand_cases h with ⟨hlen, rfl⟩ | ⟨-, rfl⟩
  · exact inv_succeed (hs.setSched (expandKey_shapeOk (by simpa [State.key] using hlen)))
  · exact inv_raise hs ..

theorem inv_keyedOutcome (hs : DataOk s.params s.mem s.outlen s.sched) (h : KeyedOutcome s t) :
    t.Inv := by
  rcases h with rfl | ⟨v, hlen, rfl⟩ | ⟨st, hst, rfl⟩
  · exact inv_raise hs ..
  · exact inv_succeed (hs.writeBytes fun b hlo hhi => inByteSpace_data hlo (by omega))
  · exact inv_succeed (hs.setSched (arc4Next_isPermutation (hs.schedShape _ hst)))

/-- The message of a command that is not ended by `LengthError` is shorter than BUF_BYTES. -/
theorem length_message_lt (h : s.tooLong = false) : s.message.length < s.params.bufBytes := by
  simpa [State.tooLong, State.message] using h

theorem inv_execPad (hs : DataOk s.params s.mem s.outlen s.sched) {c : BlockCipher}
    (h : execPad c s = .next t) : t.Inv := by
  obtain ⟨hmultiple, -⟩ := (wellFormed_iff _).mp hs.params
  rcases execPad_cases h with ⟨-, rfl⟩ | ⟨hfits, rfl⟩
  · exact inv_raise hs ..
  · exact inv_succeed (hs.writeOutput (length_pad_le c hmultiple (length_message_lt hfits)))

theorem inv_execUnpad (hs : DataOk s.params s.mem s.outlen s.sched) {c : BlockCipher}
    (h : execUnpad c s = .next t) : t.Inv := by
  rcases execUnpad_cases h with ⟨-, rfl⟩ | ⟨-, -, rfl⟩ | ⟨hfits, d, hd, rfl⟩
  · exact inv_raise hs ..
  · exact inv_raise hs ..
  · exact inv_succeed (hs.writeOutput ((length_unpad_le hd).trans (length_message_lt hfits).le))

/-- A RUN that writes its result discards the schedule and succeeds (48_pipeline.md R334). -/
theorem inv_runResult (hs : DataOk s.params s.mem s.outlen s.sched) {v : Bytes}
    (hv : v.length ≤ s.params.bufBytes) : (runResult v s).Inv :=
  inv_succeed (s := (s.writeOutput v).setSched none) (hs.writeOutput hv).discardSched

theorem inv_execRun (hs : DataOk s.params s.mem s.outlen s.sched) {c : BlockCipher} {d : Dir}
    {m : Chain} {iv : Bool} (h : execRun c d m iv s = .next t) : t.Inv := by
  obtain ⟨hmultiple, -⟩ := (wellFormed_iff _).mp hs.params
  rcases execRun_cases h with ⟨e, len, rfl⟩ | ⟨hfits, -, -, out, hout, rfl⟩
  · exact inv_raise hs ..
  · exact inv_runResult hs (length_runMessage_le hmultiple (length_message_lt hfits) hout)

theorem inv_execRunArc4 (hs : DataOk s.params s.mem s.outlen s.sched) {d : Dir}
    (h : execRunArc4 d s = .next t) : t.Inv := by
  rcases execRunArc4_cases h with ⟨e, len, rfl⟩ | ⟨hfits, -, rfl⟩
  · exact inv_raise hs ..
  · exact inv_runResult hs ((length_arc4Crypt _ _).trans_le (length_message_lt hfits).le)

theorem inv_execClear (hs : DataOk s.params s.mem s.outlen s.sched) (h : execClear s = .next t) :
    t.Inv := by
  obtain rfl : s.discardKey.succeed = t := by simpa [execClear] using h
  exact inv_succeed (hs.zeroFill keyBase 256).discardSched

/-- Every command ends in a state that meets the invariant. -/
theorem inv_exec (hs : DataOk s.params s.mem s.outlen s.sched) {i : Instr}
    (h : exec i s = .next t) : t.Inv := by
  cases i with
  | expandAes | expandRc6 | expandBf | expandIdea | expandArc4 => exact inv_expandCommand hs h
  | encbAes => exact inv_keyedOutcome hs (execEncbAes_cases h)
  | encbRc6 => exact inv_keyedOutcome hs (execEncbRc6_cases h)
  | encbBf => exact inv_keyedOutcome hs (execEncbBf_cases h)
  | encbIdea => exact inv_keyedOutcome hs (execEncbIdea_cases h)
  | decbAes => exact inv_keyedOutcome hs (execDecbAes_cases h)
  | decbRc6 => exact inv_keyedOutcome hs (execDecbRc6_cases h)
  | decbBf => exact inv_keyedOutcome hs (execDecbBf_cases h)
  | decbIdea => exact inv_keyedOutcome hs (execDecbIdea_cases h)
  | ksnext => exact inv_keyedOutcome hs (execKsnext_cases h)
  | pad c => exact inv_execPad hs h
  | unpad c => exact inv_execUnpad hs h
  | run c d m iv => exact inv_execRun hs h
  | runArc4 d => exact inv_execRunArc4 (d := d) hs h
  | clear => exact inv_execClear hs h

end

/-! ## The turns -/

section
variable {s t : State}

/-! The agenda and the bus's reply are in neither part. -/

theorem inv_setAgenda (hs : s.Inv) (l : List Turn) : (s.setAgenda l).Inv :=
  (inv_iff _).mpr ((inv_iff s).mp hs)

theorem inv_replyWritten (hs : s.Inv) : s.replyWritten.Inv := (inv_iff _).mpr ((inv_iff s).mp hs)

theorem inv_replyBusError (hs : s.Inv) : s.replyBusError.Inv := (inv_iff _).mpr ((inv_iff s).mp hs)

theorem inv_serveRead (hs : s.Inv) (off : Nat) : (s.serveRead off).Inv :=
  (inv_iff _).mpr ((inv_iff s).mp hs)

theorem inv_engineTurn (hs : s.Inv) (h : engineTurn s = .next t) : t.Inv := by
  obtain ⟨hdata, -⟩ := (inv_iff s).mp hs
  rcases engineTurn_cases h with ⟨-, rfl⟩ | ⟨w, i, -, -, hexec⟩ | ⟨w, -, -, rfl⟩ | ⟨w, -, -, rfl⟩
  · exact hs
  · exact inv_exec hdata hexec
  · exact inv_raise hdata ..
  · exact inv_raise hdata ..

theorem inv_resetCore (hs : s.Inv) : s.resetCore.Inv := by
  obtain ⟨hdata, -⟩ := (inv_iff s).mp hs
  exact (inv_iff _).mpr ⟨hdata.resetMemory s.draws, flagsOk_idle false⟩

theorem inv_writeCtrl (hs : s.Inv) (v : Word) : (s.writeCtrl v).Inv := by
  unfold State.writeCtrl
  split
  · exact inv_resetCore hs
  · exact (inv_iff _).mpr ((inv_iff s).mp hs)

/-- A write at an aligned offset keeps the invariant, busy or idle. -/
theorem inv_writeWord (hs : s.Inv) {off : Nat} (h4 : off % 4 = 0) (v : Word) :
    (s.writeWord off v).Inv := by
  obtain ⟨hdata, hflags⟩ := (inv_iff s).mp hs
  rcases writeWord_cases off v s with hw | ⟨-, hw⟩ | ⟨-, hw⟩ | ⟨-, hw⟩ |
    ⟨-, ⟨-, hw⟩ | ⟨-, hw⟩ | ⟨-, hw⟩ | ⟨hregion, hw⟩⟩ <;> rw [hw]
  · exact hs
  · exact inv_writeCtrl hs v
  · rw [writeStatus_eq]
    exact (inv_iff _).mpr ⟨hdata, hflags.clearDone _⟩
  · exact (inv_iff _).mpr ⟨hdata, hflags⟩
  · exact (inv_iff _).mpr ⟨hdata, hflags.accept v⟩
  · exact (inv_iff _).mpr ⟨hdata, hflags⟩
  · exact (inv_iff _).mpr ⟨hdata, hflags⟩
  · obtain ⟨hmultiple, -⟩ := (wellFormed_iff _).mp hdata.params
    exact (inv_iff _).mpr
      ⟨hdata.writeBytes fun _ => inByteSpace_word hmultiple h4 hregion, hflags⟩

/-- The core performs aligned accesses only (20_memory.md R73). -/
theorem off_mod_four_of_wellFormed {p : Params} {a : HostAccess} (h : a.wellFormed p = true) :
    a.off p % 4 = 0 := by
  simp only [HostAccess.wellFormed, HostAccess.alignedOk, Bool.and_eq_true, beq_iff_eq] at h
  obtain ⟨⟨-, haligned⟩, -⟩ := h
  exact haligned

theorem inv_serve (hs : s.Inv) (a : HostAccess) : (serve a s).Inv := by
  rcases serve_cases a s with ⟨hperformed, hserve⟩ | ⟨-, hserve⟩ <;> rw [hserve]
  · cases a with
    | read width addr => exact inv_serveRead hs _
    | write width addr v =>
      exact inv_replyWritten (inv_writeWord hs (off_mod_four_of_wellFormed hperformed) v)
  · exact inv_replyBusError hs

end

/-! ## The statement -/

/-- Settles O12: the turn of a step is the engine's, a reset or an access, and each keeps both parts of the
invariant. -/
theorem stepKeepsTheInvariant : Obligations.StepKeepsTheInvariant := by
  intro s t hs h
  rcases step_cases h with ⟨-, hturn⟩ | ⟨rest, -, hturn⟩ | ⟨rest, -, rfl⟩ | ⟨a, rest, -, rfl⟩
  · exact inv_engineTurn hs hturn
  · exact inv_engineTurn (inv_setAgenda hs rest) hturn
  · exact inv_resetCore (inv_setAgenda hs rest)
  · exact inv_serve (inv_setAgenda hs rest) a

end Sys2Proof.Machine
end

section
/-! SUPPORT. Blocks packed into words and unpacked (00_scope.md R10, 43_aes.md R183, 45_blowfish.md R251,
46_idea.md R282). -/

namespace Sys2Proof.Machine

/-- Unpacking four bytes packed big-endian (00_scope.md R10). -/
theorem be32Bytes_be32 (b : Bytes) (i : Nat) :
    be32Bytes (be32 b i) = [byteAt b i, byteAt b (i + 1), byteAt b (i + 2), byteAt b (i + 3)] := by
  have h := le32Bytes_le32 [byteAt b (i + 3), byteAt b (i + 2), byteAt b (i + 1), byteAt b i] 0
  simp only [le32Bytes, List.cons.injEq, and_true] at h
  obtain ⟨h0, h1, h2, h3⟩ := h
  exact congr (congrArg _ h3) (congr (congrArg _ h2) (congr (congrArg _ h1) (congrArg (· :: []) h0)))

/-- Two bytes packed big-endian and unpacked (00_scope.md R10). -/
theorem be16_be16Bytes (x : Half) : be16 (be16Bytes x) 0 = x := by
  refine BitVec.eq_of_getLsbD_eq fun n hn => ?_
  simp only [be16, be16Bytes, byteAt, List.getD_cons_zero, List.getD_cons_succ, Nat.zero_add,
    BitVec.getLsbD_append, BitVec.getLsbD_extractLsb']
  interval_cases n <;> simp

/-- Unpacking two bytes packed big-endian (00_scope.md R10). -/
theorem be16Bytes_be16 (b : Bytes) (i : Nat) :
    be16Bytes (be16 b i) = [byteAt b i, byteAt b (i + 1)] := by
  simp only [be16Bytes, be16, List.cons.injEq, and_true]
  refine ⟨?_, ?_⟩ <;>
  · refine BitVec.eq_of_getLsbD_eq fun n hn => ?_
    simp only [BitVec.getLsbD_extractLsb', BitVec.getLsbD_append]
    interval_cases n <;> simp

/-- A string of n bytes is those that `byteAt` reads at the indices below n. -/
theorem map_byteAt_range {b : Bytes} {n : Nat} (h : b.length = n) :
    (List.range n).map (byteAt b) = b := by
  subst h
  exact List.ext_getElem (by simp) fun i _ hi => by simp [byteAt, hi]

theorem aesLoad_aesStore (s : AesBlock) : aesLoad (aesStore s) = s := rfl

theorem aesStore_aesLoad {b : Bytes} (h : b.length = 16) : aesStore (aesLoad b) = b :=
  map_byteAt_range h

theorem bfLoad_bfStore (x : Halves) : bfLoad (bfStore x) = x :=
  Prod.ext (be32_be32Bytes x.1) (be32_be32Bytes x.2)

theorem bfStore_bfLoad {b : Bytes} (h : b.length = 8) : bfStore (bfLoad b) = b := by
  simp only [bfStore, bfLoad, be32Bytes_be32]
  exact map_byteAt_range h

theorem ideaLoad_ideaStore (x : IdeaBlock) : ideaLoad (ideaStore x) = x := by
  obtain ⟨a, b, c, d⟩ := x
  exact congr (congr (congr (congrArg IdeaBlock.mk (be16_be16Bytes a)) (be16_be16Bytes b))
    (be16_be16Bytes c)) (be16_be16Bytes d)

theorem ideaStore_ideaLoad {b : Bytes} (h : b.length = 8) : ideaStore (ideaLoad b) = b := by
  simp only [ideaStore, ideaLoad, be16Bytes_be16]
  exact map_byteAt_range h

end Sys2Proof.Machine
end

section
/-! SUPPORT. The rounds of Blowfish and their inverses (45_blowfish.md R254, R255). -/

namespace Sys2Proof.Machine

/-- The last of `n + 1` rounds from round i on is round i + n. -/
theorem bfRounds_succ (t : BfTables) (n i : Nat) (x : Halves) :
    bfRounds t (n + 1) i x = bfRound t (i + n) (bfRounds t n i x) := by
  induction n generalizing i x with
  | zero => rfl
  | succ n ih =>
    rw [bfRounds, ih, Nat.add_right_comm]
    rfl

/-- The halves exchanged and combined with the P-array entries i and i + 1: after the rounds 0 to i - 1 of
an encipherment, what a decipherment holds before its round i + 1. -/
def bfWhiten (t : BfTables) (i : Nat) (x : Halves) : Halves :=
  (x.2 ^^^ t.p.getD (i + 1) 0, x.1 ^^^ t.p.getD i 0)

theorem bfEncipher_eq_bfWhiten (t : BfTables) (x : Halves) :
    bfEncipher t x = bfWhiten t 16 (bfRounds t 16 0 x) := rfl

theorem bfDecipher_eq (t : BfTables) (x : Halves) : bfDecipher t x =
    ((bfInvRounds t 16 x).2 ^^^ t.p.getD 0 0, (bfInvRounds t 16 x).1 ^^^ t.p.getD 1 0) := rfl

/-- A round of the decipherment takes a round of the encipherment off. -/
theorem bfRound_bfWhiten_bfRound (t : BfTables) (i : Nat) (x : Halves) :
    bfRound t (i + 2) (bfWhiten t (i + 1) (bfRound t i x)) = bfWhiten t i x := by
  obtain ⟨l, r⟩ := x
  simp only [bfRound, bfWhiten, BitVec.xor_assoc, BitVec.xor_self, BitVec.xor_zero, Prod.mk.injEq,
    and_true]
  rw [BitVec.xor_comm (t.p.getD (i + 1) 0), ← BitVec.xor_assoc (bfF t _), BitVec.xor_self,
    BitVec.zero_xor]

theorem bfInvRounds_bfRounds (t : BfTables) (n : Nat) (x : Halves) :
    bfInvRounds t n (bfWhiten t n (bfRounds t n 0 x)) = bfWhiten t 0 x := by
  induction n with
  | zero => rfl
  | succ n ih => rw [bfRounds_succ, Nat.zero_add, bfInvRounds, bfRound_bfWhiten_bfRound, ih]

theorem bfDecipher_bfEncipher (t : BfTables) (x : Halves) : bfDecipher t (bfEncipher t x) = x := by
  rw [bfDecipher_eq, bfEncipher_eq_bfWhiten, bfInvRounds_bfRounds]
  simp [bfWhiten]

theorem bfDecrypt_bfEncrypt (t : BfTables) {b : Bytes} (h : b.length = 8) :
    bfDecrypt t (bfEncrypt t b) = b := by
  rw [bfDecrypt, bfEncrypt, bfLoad_bfStore, bfDecipher_bfEncipher, bfStore_bfLoad h]

end Sys2Proof.Machine
end

section
/-! SUPPORT. The transformations of AES and their inverses (43_aes.md R186 to R194). -/

namespace Sys2Proof.Machine

/-! ## Bytes -/

/-- InvSbox of the entries of Sbox, in their order (43_aes.md R198, R199). -/
theorem map_invSbox_sboxTable : sboxTable.map invSbox = (List.range 256).map (BitVec.ofNat 8) := by
  decide +kernel

theorem invSbox_sbox (x : Byte) : invSbox (sbox x) = x := by
  have hlen : sboxTable.length = 256 := by decide +kernel
  have hx : x.toNat < sboxTable.length := hlen.symm ▸ x.isLt
  have h : (sboxTable.map invSbox)[x.toNat]? = ((List.range 256).map (BitVec.ofNat 8))[x.toNat]? := by
    rw [map_invSbox_sboxTable]
  rw [List.getElem?_map, List.getElem?_map, List.getElem?_range x.isLt,
    List.getElem?_eq_getElem hx] at h
  rw [sbox, List.getD_eq_getElem _ _ hx, Option.some.inj h, BitVec.ofNat_toNat, BitVec.setWidth_eq]

/-- Multiplication by a fixed element is additive (43_aes.md R180). -/
theorem gmulBits_xor (n : Nat) (a b c : Byte) :
    gmulBits n a (b ^^^ c) = gmulBits n a b ^^^ gmulBits n a c := by
  induction n generalizing a b c with
  | zero => exact (BitVec.xor_self (x := (0 : Byte))).symm
  | succ n ih =>
    have hbit : (if (b ^^^ c).getLsbD 0 then a else 0) =
        (if b.getLsbD 0 then a else 0) ^^^ (if c.getLsbD 0 then a else 0) := by
      rw [BitVec.getLsbD_xor]
      cases b.getLsbD 0 <;> cases c.getLsbD 0 <;> simp
    rw [gmulBits, gmulBits, gmulBits, hbit, BitVec.ushiftRight_xor_distrib, ih]
    ac_rfl

theorem gmul_xor (a b c : Byte) : gmul a (b ^^^ c) = gmul a b ^^^ gmul a c := gmulBits_xor 8 a b c

/-! ## Columns and the state -/

theorem mixColumn_xor (p q : Quad) : mixColumn (p.xor q) = (mixColumn p).xor (mixColumn q) := by
  simp only [mixColumn, Quad.xor, gmul_xor, Quad.mk.injEq]
  refine ⟨?_, ?_, ?_, ?_⟩ <;> ac_rfl

theorem invMixColumn_xor (p q : Quad) :
    invMixColumn (p.xor q) = (invMixColumn p).xor (invMixColumn q) := by
  simp only [invMixColumn, Quad.xor, gmul_xor, Quad.mk.injEq]
  refine ⟨?_, ?_, ?_, ?_⟩ <;> ac_rfl

/-- A byte is the sum of its bits. -/
theorem byte_eq_sum_bits (x : Byte) :
    x = ((List.range 8).map fun k => if x.getLsbD k then BitVec.twoPow 8 k else 0).foldr (· ^^^ ·) 0 := by
  have hbit (k i : Nat) : (if x.getLsbD k then BitVec.twoPow 8 k else 0).getLsbD i =
      (x.getLsbD k && (decide (k < 8) && decide (k = i))) := by
    cases x.getLsbD k <;> simp
  refine BitVec.eq_of_getLsbD_eq fun i hi => ?_
  simp only [List.range, List.range.loop, List.map, List.foldr, BitVec.getLsbD_xor, hbit]
  interval_cases i <;> simp

/-- Where bytes are put into columns additively, the two matrices undo each other on every byte if they do
on the eight bits (43_aes.md R192). -/
theorem invMixColumn_mixColumn_of_bits {put : Byte → Quad}
    (hadd : ∀ x y, put (x ^^^ y) = (put x).xor (put y)) (hzero : put 0 = Quad.zero)
    (hbits : ∀ k < 8, invMixColumn (mixColumn (put (BitVec.twoPow 8 k))) = put (BitVec.twoPow 8 k))
    (x : Byte) : invMixColumn (mixColumn (put x)) = put x := by
  have hsum (l : List Byte) (hl : ∀ b ∈ l, invMixColumn (mixColumn (put b)) = put b) :
      invMixColumn (mixColumn (put (l.foldr (· ^^^ ·) 0))) = put (l.foldr (· ^^^ ·) 0) := by
    induction l with
    | nil =>
      rw [List.foldr_nil, hzero]
      decide +kernel
    | cons b l ih =>
      obtain ⟨hb, hl⟩ := List.forall_mem_cons.mp hl
      rw [List.foldr_cons, hadd, mixColumn_xor, invMixColumn_xor, hb, ih hl]
  rw [byte_eq_sum_bits x]
  refine hsum _ fun b hb => ?_
  obtain ⟨k, hk, rfl⟩ := List.mem_map.mp hb
  split_ifs
  · exact hbits k (List.mem_range.mp hk)
  · exact hsum [] (by simp)

/-- Every column is the sum of four with one byte set. -/
theorem invMixColumn_mixColumn (q : Quad) : invMixColumn (mixColumn q) = q := by
  have h0 := invMixColumn_mixColumn_of_bits (put := fun x => ⟨x, 0, 0, 0⟩) (by simp [Quad.xor]) rfl
    (by decide +kernel) q.b0
  have h1 := invMixColumn_mixColumn_of_bits (put := fun x => ⟨0, x, 0, 0⟩) (by simp [Quad.xor]) rfl
    (by decide +kernel) q.b1
  have h2 := invMixColumn_mixColumn_of_bits (put := fun x => ⟨0, 0, x, 0⟩) (by simp [Quad.xor]) rfl
    (by decide +kernel) q.b2
  have h3 := invMixColumn_mixColumn_of_bits (put := fun x => ⟨0, 0, 0, x⟩) (by simp [Quad.xor]) rfl
    (by decide +kernel) q.b3
  have hsum : q = (Quad.mk q.b0 0 0 0).xor ((Quad.mk 0 q.b1 0 0).xor
      ((Quad.mk 0 0 q.b2 0).xor ⟨0, 0, 0, q.b3⟩)) := by simp [Quad.xor]
  rw [hsum, mixColumn_xor, mixColumn_xor, mixColumn_xor, invMixColumn_xor, invMixColumn_xor,
    invMixColumn_xor, h0, h1, h2, h3]

theorem invSubWord_subWord (q : Quad) : invSubWord (subWord q) = q := by
  simp only [invSubWord, subWord, invSbox_sbox]

@[simp] theorem Quad.xor_xor_cancel_right (a b : Quad) : (a.xor b).xor b = a := by
  simp [Quad.xor]

theorem invSubBytes_subBytes (s : AesBlock) : invSubBytes (subBytes s) = s := by
  simp only [invSubBytes, subBytes, AesBlock.mapColumns, invSubWord_subWord]

theorem invShiftRows_shiftRows (s : AesBlock) : invShiftRows (shiftRows s) = s := rfl

theorem invMixColumns_mixColumns (s : AesBlock) : invMixColumns (mixColumns s) = s := by
  simp only [invMixColumns, mixColumns, AesBlock.mapColumns, invMixColumn_mixColumn]

theorem addRoundKey_addRoundKey (w : List Quad) (rnd : Nat) (s : AesBlock) :
    addRoundKey w rnd (addRoundKey w rnd s) = s := by
  simp [addRoundKey]

/-! ## The rounds -/

/-- The last of `n + 1` rounds from round rnd on is round rnd + n. -/
theorem aesRounds_succ (w : List Quad) (n rnd : Nat) (s : AesBlock) :
    aesRounds w (n + 1) rnd s =
      addRoundKey w (rnd + n) (mixColumns (shiftRows (subBytes (aesRounds w n rnd s)))) := by
  induction n generalizing rnd s with
  | zero => rfl
  | succ n ih =>
    rw [aesRounds, ih, Nat.add_right_comm]
    rfl

/-- The inverse rounds start and end between a SubBytes with ShiftRows and its round key. -/
theorem aesInvRounds_aesRounds (w : List Quad) (n : Nat) (s : AesBlock) :
    aesInvRounds w n (shiftRows (subBytes (aesRounds w n 1 s))) = shiftRows (subBytes s) := by
  induction n with
  | zero => rfl
  | succ n ih =>
    rw [aesInvRounds, invShiftRows_shiftRows, invSubBytes_subBytes, aesRounds_succ, Nat.add_comm 1,
      addRoundKey_addRoundKey, invMixColumns_mixColumns, ih]

theorem aesInvCipher_aesCipher (nr : Nat) (w : List Quad) (s : AesBlock) :
    aesInvCipher nr w (aesCipher nr w s) = s := by
  rw [aesInvCipher, aesCipher, addRoundKey_addRoundKey, aesInvRounds_aesRounds,
    invShiftRows_shiftRows, invSubBytes_subBytes, addRoundKey_addRoundKey]

theorem aesDecrypt_aesEncrypt (nr : Nat) (w : List Quad) {b : Bytes} (h : b.length = 16) :
    aesDecrypt nr w (aesEncrypt nr w b) = b := by
  rw [aesDecrypt, aesEncrypt, aesLoad_aesStore, aesInvCipher_aesCipher, aesStore_aesLoad h]

end Sys2Proof.Machine
end

section
/-! SUPPORT. The multiplication of IDEA, its inverse, and the data path under the two subkey tables
(46_idea.md R281, R284, R286, R287). -/

namespace Sys2Proof.Machine

/-! ## Multiplication modulo 65537 (46_idea.md R281) -/

theorem ideaNum_pos (a : Half) : 0 < ideaNum a := by
  unfold ideaNum
  split_ifs with h
  · decide
  · exact Nat.pos_of_ne_zero fun h0 => h (BitVec.eq_of_toNat_eq h0)

theorem ideaNum_lt (a : Half) : ideaNum a < 65537 := by
  unfold ideaNum
  split_ifs
  · decide
  · omega

theorem ideaNum_inj {a b : Half} (h : ideaNum a = ideaNum b) : a = b := by
  unfold ideaNum at h
  split_ifs at h with ha hb hb
  · rw [ha, hb]
  · omega
  · omega
  · exact BitVec.eq_of_toNat_eq h

/-- Every number from 1 to 65536 is that of its 16 bits. -/
theorem ideaNum_ofNat {n : Nat} (hpos : 0 < n) (hlt : n < 65537) : ideaNum (BitVec.ofNat 16 n) = n := by
  obtain rfl | hn : n = 65536 ∨ n < 65536 := by omega
  · rfl
  · have hval : (BitVec.ofNat 16 n).toNat = n := by rw [BitVec.toNat_ofNat]; omega
    have hne : BitVec.ofNat 16 n ≠ 0 := fun h0 => by
      rw [h0] at hval
      exact hpos.ne hval
    rw [ideaNum, if_neg hne, hval]

theorem prime_65537 : Nat.Prime 65537 := by norm_num

/-- The number of a product is the product of the numbers modulo 65537. -/
theorem ideaNum_ideaMul (a b : Half) : ideaNum (ideaMul a b) = ideaNum a * ideaNum b % 65537 := by
  refine ideaNum_ofNat (Nat.pos_of_ne_zero fun h0 => ?_) (Nat.mod_lt _ (by decide))
  rcases (prime_65537.dvd_mul).mp (Nat.dvd_of_mod_eq_zero h0) with h | h
  · exact (Nat.le_of_dvd (ideaNum_pos a) h).not_gt (ideaNum_lt a)
  · exact (Nat.le_of_dvd (ideaNum_pos b) h).not_gt (ideaNum_lt b)

theorem ideaMul_assoc (a b c : Half) : ideaMul (ideaMul a b) c = ideaMul a (ideaMul b c) := by
  apply ideaNum_inj
  simp only [ideaNum_ideaMul, Nat.mod_mul_mod, Nat.mul_mod_mod, Nat.mul_assoc]

theorem ideaMul_one (a : Half) : ideaMul a 1 = a := by
  apply ideaNum_inj
  rw [ideaNum_ideaMul, show ideaNum 1 = 1 from rfl, Nat.mul_one, Nat.mod_eq_of_lt (ideaNum_lt a)]

/-- n turns of square-and-multiply give the power 2^(n+1) - 1. -/
theorem ideaNum_iterate (x : Half) (n : Nat) :
    ideaNum ((fun y => ideaMul (ideaMul y y) x)^[n] x) = ideaNum x ^ (2 ^ (n + 1) - 1) % 65537 := by
  induction n with
  | zero => exact ((congrArg (· % 65537) (pow_one _)).trans (Nat.mod_eq_of_lt (ideaNum_lt x))).symm
  | succ n ih =>
    have hexp : 2 ^ (n + 1 + 1) - 1 = 2 ^ (n + 1) - 1 + (2 ^ (n + 1) - 1) + 1 := by
      have := Nat.one_le_two_pow (n := n + 1)
      omega
    rw [Function.iterate_succ_apply', ideaNum_ideaMul, ideaNum_ideaMul, ih, hexp, pow_succ _ (_ + _),
      pow_add (ideaNum x)]
    simp only [Nat.mod_mul_mod, Nat.mul_mod_mod]

/-- `inv` is the inverse, by Fermat's theorem modulo 65537. -/
theorem ideaMul_ideaInv (x : Half) : ideaMul x (ideaInv x) = 1 := by
  apply ideaNum_inj
  have hcoprime : Nat.Coprime (ideaNum x) 65537 :=
    (Nat.coprime_of_lt_prime (ideaNum_pos x).ne' (ideaNum_lt x) prime_65537).symm
  have hfermat : ideaNum x ^ (65537 - 1) % 65537 = 1 := by
    have h := Nat.ModEq.pow_totient hcoprime
    rwa [Nat.totient_prime prime_65537] at h
  have hexp : 65537 - 1 = 2 ^ (15 + 1) - 1 + 1 := by norm_num
  rwa [ideaNum_ideaMul, ideaInv, ideaNum_iterate, Nat.mul_mod_mod, ← pow_succ', ← hexp]

theorem ideaMul_ideaMul_ideaInv (a k : Half) : ideaMul (ideaMul a k) (ideaInv k) = a := by
  rw [ideaMul_assoc, ideaMul_ideaInv, ideaMul_one]

/-! ## The parts of a round (46_idea.md R286) -/

/-- The four words of a block combined with the first four subkeys of round r. -/
def ideaKeyMix (t : List Half) (r : Nat) (x : IdeaBlock) : IdeaBlock :=
  ⟨ideaMul x.x1 (keyAt t (6 * (r - 1) + 1)), x.x2 + keyAt t (6 * (r - 1) + 2),
    x.x3 + keyAt t (6 * (r - 1) + 3), ideaMul x.x4 (keyAt t (6 * (r - 1) + 4))⟩

/-- The two words that round r combines with the halves of a block, made with its last two subkeys. -/
def ideaPads (t : List Half) (r : Nat) (x : IdeaBlock) : Half × Half :=
  let e := ideaMul (x.x1 ^^^ x.x3) (keyAt t (6 * (r - 1) + 5))
  let f := ideaMul ((x.x2 ^^^ x.x4) + e) (keyAt t (6 * (r - 1) + 6))
  (f, e + f)

/-- A block combined with the two words of round r. -/
def ideaCombine (t : List Half) (r : Nat) (x : IdeaBlock) : IdeaBlock :=
  ⟨x.x1 ^^^ (ideaPads t r x).1, x.x2 ^^^ (ideaPads t r x).2, x.x3 ^^^ (ideaPads t r x).1,
    x.x4 ^^^ (ideaPads t r x).2⟩

/-- The exchange of the two middle words. -/
def ideaSwap (x : IdeaBlock) : IdeaBlock := ⟨x.x1, x.x3, x.x2, x.x4⟩

theorem ideaRound_eq (t : List Half) (r : Nat) (x : IdeaBlock) :
    ideaRound t r x = ideaSwap (ideaCombine t r (ideaKeyMix t r x)) := rfl

theorem ideaOutput_eq (t : List Half) (x : IdeaBlock) :
    ideaOutput t x = ideaKeyMix t 9 (ideaSwap x) := rfl

@[simp] theorem ideaSwap_ideaSwap (x : IdeaBlock) : ideaSwap (ideaSwap x) = x := rfl

/-- The two words do not change when a block is combined with them, so combining twice does nothing. -/
theorem ideaCombine_ideaCombine (t : List Half) (r : Nat) (x : IdeaBlock) :
    ideaCombine t r (ideaCombine t r x) = x := by
  have hhalves (a b p : Half) : a ^^^ p ^^^ (b ^^^ p) = a ^^^ b := by
    rw [BitVec.xor_comm b, BitVec.xor_assoc, ← BitVec.xor_assoc p, BitVec.xor_self, BitVec.zero_xor]
  have hpads : ideaPads t r (ideaCombine t r x) = ideaPads t r x := by
    simp only [ideaPads, ideaCombine, hhalves]
  rw [ideaCombine, hpads]
  simp [ideaCombine]

/-- The last of `n + 1` rounds from round r on is round r + n. -/
theorem ideaRounds_succ (t : List Half) (n r : Nat) (x : IdeaBlock) :
    ideaRounds t (n + 1) r x = ideaRound t (r + n) (ideaRounds t n r x) := by
  induction n generalizing r x with
  | zero => rfl
  | succ n ih =>
    rw [ideaRounds, ih, Nat.add_right_comm]
    rfl

/-! ## The data path under the derived subkeys (46_idea.md R284, R287) -/

/-- The derived subkeys of round r take off those of round 10 - r of Z, with the middle words exchanged
but for the first round and the output transformation. -/
theorem ideaKeyMix_ideaDecKeys (z : List Half) {r : Nat} (hlo : 1 ≤ r) (hhi : r ≤ 9) (x : IdeaBlock) :
    ideaKeyMix (ideaDecKeys z) r
      (if r = 1 ∨ r = 9 then ideaKeyMix z (10 - r) x else ideaSwap (ideaKeyMix z (10 - r) x)) =
      if r = 1 ∨ r = 9 then x else ideaSwap x := by
  obtain ⟨h0, h1, h2, h3, -⟩ := ideaDecRound_entries z r
  have hround : 10 - r - 1 = 9 - r := by omega
  have hat {i : Nat} (m : Nat) (hm : m < 4) (hi : i = 6 * (r - 1) + m + 1) :=
    keyAt_ideaDecKeys z m hlo hhi (.inl hm) hi
  rw [ideaKeyMix, hat 0 (by omega) rfl, hat 1 (by omega) rfl, hat 2 (by omega) rfl,
    hat 3 (by omega) rfl, h0, h1, h2, h3]
  split_ifs <;> simp [ideaKeyMix, ideaSwap, hround, ideaMul_ideaMul_ideaInv]

/-- The last two derived subkeys of round r are those of round 9 - r of Z. -/
theorem ideaCombine_ideaDecKeys (z : List Half) {r : Nat} (hlo : 1 ≤ r) (hhi : r ≤ 8) (x : IdeaBlock) :
    ideaCombine (ideaDecKeys z) r x = ideaCombine z (9 - r) x := by
  obtain ⟨-, -, -, -, htail⟩ := ideaDecRound_entries z r
  obtain ⟨h4, h5⟩ := htail hhi
  have hround : 9 - r - 1 = 8 - r := by omega
  have hat {i : Nat} (m : Nat) (hm : m < 6) (hi : i = 6 * (r - 1) + m + 1) :=
    keyAt_ideaDecKeys z m hlo (by omega) (.inr ⟨hhi, hm⟩) hi
  simp only [ideaCombine, ideaPads, hround, hat 4 (by omega) rfl, hat 5 (by omega) rfl, h4, h5]

/-- Round r under the derived subkeys: where combining with its first four gives the swapped result of
round 9 - r under Z, the round gives that round's block before its combination. -/
theorem ideaRound_ideaDecKeys (z : List Half) {r : Nat} (hlo : 1 ≤ r) (hhi : r ≤ 8) {x y : IdeaBlock}
    (h : ideaKeyMix (ideaDecKeys z) r x = ideaSwap (ideaRound z (9 - r) y)) :
    ideaRound (ideaDecKeys z) r x = ideaSwap (ideaKeyMix z (9 - r) y) := by
  rw [ideaRound_eq, h, ideaRound_eq, ideaSwap_ideaSwap, ideaCombine_ideaDecKeys z hlo hhi,
    ideaCombine_ideaCombine]

/-- After n + 1 rounds under the derived subkeys stands what round 8 - n under Z combines. -/
theorem ideaRounds_ideaDecKeys (z : List Half) {n : Nat} (hn : n < 8) (x : IdeaBlock) :
    ideaRounds (ideaDecKeys z) (n + 1) 1 (ideaOutput z (ideaRounds z 8 1 x)) =
      ideaSwap (ideaKeyMix z (8 - n) (ideaRounds z (7 - n) 1 x)) := by
  induction n with
  | zero =>
    have hkeys := ideaKeyMix_ideaDecKeys z (r := 1) (by omega) (by omega) (ideaSwap (ideaRounds z 8 1 x))
    exact ideaRound_ideaDecKeys z (r := 1) (by omega) (by omega) (by
      rw [ideaOutput_eq, ← ideaRounds_succ z 7 1]
      exact hkeys)
  | succ n ih =>
    have hround : ideaRounds z (7 - n) 1 x =
        ideaRound z (9 - (n + 2)) (ideaRounds z (7 - (n + 1)) 1 x) := by
      rw [show 7 - n = 7 - (n + 1) + 1 by omega, ideaRounds_succ,
        show 1 + (7 - (n + 1)) = 9 - (n + 2) by omega]
    have hkeys := ideaKeyMix_ideaDecKeys z (r := n + 2) (by omega) (by omega) (ideaRounds z (7 - n) 1 x)
    rw [if_neg (by omega), if_neg (by omega), show 10 - (n + 2) = 8 - n by omega, ← ih (by omega),
      hround] at hkeys
    rw [ideaRounds_succ, Nat.add_comm 1, ideaRound_ideaDecKeys z (by omega) (by omega) hkeys,
      show 9 - (n + 2) = 8 - (n + 1) by omega]

theorem ideaCrypt_ideaDecKeys (z : List Half) {b : Bytes} (h : b.length = 8) :
    ideaCrypt (ideaDecKeys z) (ideaCrypt z b) = b := by
  have hrounds := ideaRounds_ideaDecKeys z (n := 7) (by omega) (ideaLoad b)
  have hkeys := ideaKeyMix_ideaDecKeys z (r := 9) (by omega) (by omega) (ideaLoad b)
  rw [ideaCrypt, ideaCrypt, ideaLoad_ideaStore, hrounds, ideaOutput_eq, ideaSwap_ideaSwap]
  exact (congrArg ideaStore hkeys).trans (ideaStore_ideaLoad h)

end Sys2Proof.Machine
end

section
/-! SUPPORT. Padding, splitting and chaining, and their inverses (40_block_utils.md R130 to R132,
48_pipeline.md R331 to R333). -/

namespace Sys2Proof.Machine

/-! ## Padding (40_block_utils.md R131) -/

theorem blockSize_pos (c : BlockCipher) : 0 < blockSize c := by cases c <;> decide

theorem blockSize_le (c : BlockCipher) : blockSize c ≤ 16 := by cases c <;> decide

/-- A padded string is a whole number of blocks. -/
theorem length_pad_mod {bs : Nat} (hbs : 0 < bs) (d : Bytes) : (pad bs d).length % bs = 0 := by
  have hmod := Nat.mod_lt d.length hbs
  have hdiv := Nat.div_add_mod d.length bs
  rw [length_pad, show d.length + (bs - d.length % bs) = bs * (d.length / bs) + bs * 1 by omega,
    ← Nat.mul_add, Nat.mul_mod_right]

/-- Every byte of the padding is its length, and the last byte tells it. -/
theorem unpad_pad {bs : Nat} (hbs : 0 < bs) (hle : bs < 256) (d : Bytes) :
    unpad bs (pad bs d) = some d := by
  have hmod := Nat.mod_lt d.length hbs
  have hblocks := length_pad_mod hbs d
  have hlen := length_pad bs d
  have hpad : pad bs d =
      d ++ rep (BitVec.ofNat 8 (bs - d.length % bs)) (bs - d.length % bs) := rfl
  generalize hp : bs - d.length % bs = p at hlen hpad
  have hval : (BitVec.ofNat 8 p).toNat = p := by rw [BitVec.toNat_ofNat]; omega
  have hlast : byteAt (pad bs d) ((pad bs d).length - 1) = BitVec.ofNat 8 p := by
    rw [hlen, hpad, byteAt, List.getD_append_right _ _ _ _ (by omega)]
    exact List.getD_replicate _ (by omega)
  have hne : BitVec.ofNat 8 p ≠ 0 := fun h0 => by
    have hp0 : p = 0 := by rw [← hval, h0]; rfl
    omega
  have hstart : (pad bs d).length - p = d.length := by omega
  simp only [unpad, hlast, hblocks, hval, hstart]
  rw [if_neg (by omega), if_neg (not_or.mpr ⟨hne, by omega⟩), hpad, List.drop_left, List.take_left,
    if_neg (by simp [rep])]

/-! ## Splitting (40_block_utils.md R132) -/

/-- The first block, and the blocks of the rest. -/
theorem split_append {bs : Nat} {b : Bytes} (d : Bytes) (hbs : 0 < bs) (hb : b.length = bs) :
    split bs (b ++ d) = b :: split bs d := by
  have hcount : (b ++ d).length / bs = d.length / bs + 1 := by
    rw [List.length_append, hb, Nat.add_comm, Nat.add_div_right _ hbs]
  have hfirst : slice (b ++ d) (0 * bs) bs = b := by simp [slice, ← hb]
  have hlater (k : Nat) : slice (b ++ d) ((k + 1) * bs) bs = slice d (k * bs) bs := by
    rw [slice, slice, Nat.succ_mul, List.drop_append]
    simp [hb, List.drop_eq_nil_of_le]
  rw [split, hcount, List.range_succ_eq_map, List.map_cons, hfirst, List.map_map]
  exact congrArg (b :: ·) (List.map_congr_left fun k _ => hlater k)

theorem split_join {bs : Nat} (hbs : 0 < bs) {l : List Bytes} (h : ∀ b ∈ l, b.length = bs) :
    split bs (join l) = l := by
  induction l with
  | nil => simp [join, split]
  | cons b l ih =>
    obtain ⟨hb, hl⟩ := List.forall_mem_cons.mp h
    rw [join, List.flatten_cons, split_append _ hbs hb]
    exact congrArg (b :: ·) (ih hl)

/-- A string of whole blocks is the join of blocks. -/
theorem exists_join {bs : Nat} {d : Bytes} (h : d.length % bs = 0) :
    ∃ l : List Bytes, (∀ b ∈ l, b.length = bs) ∧ d = join l := by
  obtain ⟨n, hn⟩ := Nat.dvd_of_mod_eq_zero h
  induction n generalizing d with
  | zero => exact ⟨[], by simp, List.length_eq_zero_iff.mp hn⟩
  | succ n ih =>
    rw [Nat.mul_succ] at hn
    obtain ⟨l, hl, hd⟩ := ih (d := d.drop bs) (by simp [hn]) (by simp [hn])
    refine ⟨d.take bs :: l, List.forall_mem_cons.mpr ⟨by simp [hn], hl⟩, ?_⟩
    rw [join, List.flatten_cons, ← join, ← hd, List.take_append_drop]

theorem length_join {bs : Nat} {l : List Bytes} (h : ∀ b ∈ l, b.length = bs) :
    (join l).length = l.length * bs := by
  rw [join, List.length_flatten, List.map_congr_left h, List.map_const', List.sum_replicate,
    smul_eq_mul]

/-! ## Chaining (48_pipeline.md R333) -/

theorem xorBytes_xorBytes {a b : Bytes} (h : a.length = b.length) : xorBytes (xorBytes a b) b = a := by
  induction a generalizing b with
  | nil => rfl
  | cons x a ih =>
    cases b with
    | nil => cases h
    | cons y b =>
      have hcons : xorBytes (xorBytes (x :: a) (y :: b)) (y :: b) =
          (x ^^^ y ^^^ y) :: xorBytes (xorBytes a b) b := rfl
      rw [hcons, ih (Nat.succ.inj h), BitVec.xor_assoc, BitVec.xor_self, BitVec.xor_zero]

/-- What decryption chains a block with is what encryption chained it with. -/
theorem cbcDecrypt_cbcEncrypt {e d : Bytes → Bytes} {bs : Nat} (he : ∀ b, (e b).length = bs)
    (hd : ∀ b, b.length = bs → d (e b) = b) {prev : Bytes} (hprev : prev.length = bs) {l : List Bytes}
    (hl : ∀ b ∈ l, b.length = bs) : cbcDecrypt d prev (cbcEncrypt e prev l) = l := by
  induction l generalizing prev with
  | nil => rfl
  | cons b l ih =>
    obtain ⟨hb, hl⟩ := List.forall_mem_cons.mp hl
    rw [cbcEncrypt, cbcDecrypt, ih (he _) hl, hd _ (by simp [hb, hprev]),
      xorBytes_xorBytes (hb.trans hprev.symm)]

/-- The block function of decryption inverts that of encryption under every schedule that EXPAND builds
(43_aes.md R194, 44_rc6.md R225, 45_blowfish.md R255, 46_idea.md R287). -/
theorem decryptBlock_encryptBlock (c : BlockCipher) (key : Bytes) {b : Bytes}
    (h : b.length = blockSize c) :
    decryptBlock (expandBlock c key) (encryptBlock (expandBlock c key) b) = b := by
  cases c with
  | aes => exact aesDecrypt_aesEncrypt _ _ h
  | rc6 => exact rc6Decrypt_rc6Encrypt _ h
  | bf => exact bfDecrypt_bfEncrypt _ h
  | idea => exact ideaCrypt_ideaDecKeys _ h

theorem chainDecrypt_chainEncrypt (c : BlockCipher) (m : Chain) (key : Bytes) {iv : Bytes}
    (hiv : iv.length = blockSize c) {l : List Bytes} (hl : ∀ b ∈ l, b.length = blockSize c) :
    chainDecrypt m (expandBlock c key) iv (chainEncrypt m (expandBlock c key) iv l) = l := by
  cases m with
  | ecb =>
    rw [chainEncrypt, chainDecrypt, List.map_map]
    exact (List.map_congr_left fun b hb => decryptBlock_encryptBlock c key (hl b hb)).trans (List.map_id l)
  | cbc =>
    exact cbcDecrypt_cbcEncrypt (length_encryptBlock c key)
      (fun b hb => decryptBlock_encryptBlock c key hb) hiv hl

/-- Every block of the ciphertext is one that the block function gives. -/
theorem exists_of_mem_chainEncrypt {m : Chain} {k : BlockSchedule} {iv b : Bytes} {l : List Bytes}
    (h : b ∈ chainEncrypt m k iv l) : ∃ x, b = encryptBlock k x := by
  cases m with
  | ecb =>
    obtain ⟨x, -, rfl⟩ := List.mem_map.mp h
    exact ⟨x, rfl⟩
  | cbc => exact exists_of_mem_cbcEncrypt h

theorem length_eq_of_mem_chainEncrypt (c : BlockCipher) (m : Chain) (key iv : Bytes) (l : List Bytes) :
    ∀ b ∈ chainEncrypt m (expandBlock c key) iv l, b.length = blockSize c := by
  intro b hb
  obtain ⟨x, rfl⟩ := exists_of_mem_chainEncrypt hb
  exact length_encryptBlock c key x

/-! ## Messages (48_pipeline.md R331, R332) -/

/-- Encryption gives as many bytes as the padded message has. -/
theorem length_runEncrypt (c : BlockCipher) (m : Chain) (key iv d : Bytes) :
    (runEncrypt c m (expandBlock c key) iv d).length = (pad (blockSize c) d).length := by
  rw [runEncrypt, length_join (length_eq_of_mem_chainEncrypt c m key iv _), length_chainEncrypt,
    length_split]
  exact Nat.div_mul_cancel (Nat.dvd_of_mod_eq_zero (length_pad_mod (blockSize_pos c) d))

/-- Decryption of an encrypted message under the same key and IV gives the message. -/
theorem runDecrypt_runEncrypt (c : BlockCipher) (m : Chain) (key : Bytes) {iv : Bytes}
    (hiv : iv.length = blockSize c) (d : Bytes) :
    runDecrypt c m (expandBlock c key) iv (runEncrypt c m (expandBlock c key) iv d) = some d := by
  have hbs := blockSize_pos c
  have hmod := length_pad_mod hbs d
  have hpos : 0 < (pad (blockSize c) d).length := by
    have := Nat.mod_lt d.length hbs
    rw [length_pad]
    omega
  obtain ⟨l, hl, hpad⟩ := exists_join hmod
  have hsplit := split_join hbs (length_eq_of_mem_chainEncrypt c m key iv l)
  have hlen := length_runEncrypt c m key iv d
  rw [runDecrypt, if_neg (by rw [hlen]; omega), runEncrypt, hpad, split_join hbs hl, hsplit,
    chainDecrypt_chainEncrypt c m key hiv hl, ← hpad]
  exact unpad_pad hbs (by have := blockSize_le c; omega) d

end Sys2Proof.Machine
end

section
/-! SUPPORT. RUN, the host's copy of OBUF into IBUF, and RUN again (48_pipeline.md R330, R336, R337); then
the statement of R337. -/

namespace Sys2Proof.Machine

/-! ## RUN -/

theorem exec_run_accepted {c : BlockCipher} {d : Dir} {m : Chain} {iv : Bool} {s : State} {out : Bytes}
    (hfits : s.msglen.toNat < s.params.bufBytes) (hiv : m = .cbc → iv = true)
    (hkey : keyLengthOk c.cipher s.keylen.toNat = true)
    (hout : runMessage c d m (expandBlock c s.key) (s.iv (blockSize c)) s.message = some out) :
    exec (.run c d m iv) s = .next (runResult out s) := by
  have hflag : ¬(m = .cbc ∧ iv = false) := fun ⟨hm, hfalse⟩ => by simp [hiv hm] at hfalse
  simp [exec, execRun, State.tooLong, hfits, hflag, hkey, hout]

theorem endedWell_runResult (out : Bytes) (s : State) : (runResult out s).endedWell :=
  endedWell_succeed _

theorem runResult_outlen_toNat {out : Bytes} (s : State) (h : out.length < 65536) :
    (runResult out s).outlen.toNat = out.length := by
  rw [runResult_outlen, BitVec.toNat_ofNat, Nat.mod_eq_of_lt h]

/-- OBUF[0..OUTLEN) after a RUN is its result. -/
theorem output_runResult {out : Bytes} {s : State} (hwf : s.mem.wf = true) (h : out.length < 65536) :
    (runResult out s).output = out := by
  rw [State.output, runResult_outlen_toNat s h, runResult_mem, Memory.readBytes_writeBytes hwf]

/-- The longest key of every cipher fits the 256 bytes of KEY (10_state.md R50). -/
theorem keylen_le_of_keyLengthOk {c : Cipher} {n : Nat} (h : keyLengthOk c n = true) : n ≤ 256 := by
  cases c <;> simp [keyLengthOk] at h <;> omega

/-! ## The host's copy -/

/-- Equal strings have equal bytes. -/
theorem Memory.read_eq_of_readBytes_eq {m m' : Memory} {a n k : Nat}
    (h : m'.readBytes a n = m.readBytes a n) (hk : k < n) : m'.read (a + k) = m.read (a + k) := by
  rw [← Memory.byteAt_readBytes m' a n k hk, h, Memory.byteAt_readBytes m a n k hk]

/-- After a RUN and the host's copy, the key string and the IV are those of the RUN, and the message is its
result (48_pipeline.md R337). -/
theorem operands_of_copiedBack {s u : State} {out : Bytes} (hwf : s.mem.wf = true)
    (hout : out.length < 65536) (hkeylen : s.keylen.toNat ≤ 256) (h : copiedBack (runResult out s) u) :
    u.params = s.params ∧ u.mem.wf = true ∧ u.msglen.toNat = out.length ∧ u.keylen = s.keylen ∧
      u.key = s.key ∧ (∀ n ≤ 16, u.iv n = s.iv n) ∧ u.message = out := by
  obtain ⟨hparams, hwfu, hmsglen, hklen, hibuf, hkeys, hivs⟩ := h
  refine ⟨hparams, hwfu, ?msglen, hklen, ?key, fun n hn => ?iv, ?message⟩
  case msglen => rw [hmsglen, runResult_outlen_toNat s hout]
  case key =>
    refine key_congr hklen fun k hk => ?_
    rw [Memory.read_eq_of_readBytes_eq hkeys (by omega), runResult_mem,
      Memory.read_writeBytes_outside _ _ _ (by unfold keyBase obufBase; omega)]
  case iv =>
    refine Memory.readBytes_congr fun a hlo hhi => ?_
    obtain ⟨k, rfl⟩ := Nat.exists_eq_add_of_le hlo
    rw [Memory.read_eq_of_readBytes_eq hivs (by omega), runResult_mem,
      Memory.read_writeBytes_outside _ _ _ (by unfold ivBase obufBase; omega)]
  case message =>
    rw [State.message, hmsglen, hibuf]
    exact output_runResult hwf hout

/-! ## The round trip -/

/-- The command `i`, the host's copy of OBUF into IBUF, and the command `j` both succeed and give the
message back (48_pipeline.md R337). -/
def messageRoundTrip (i j : Instr) (s : State) : Prop :=
  ∃ t, exec i s = .next t ∧ t.endedWell ∧
    ∀ u, copiedBack t u → ∃ v, exec j u = .next v ∧ v.endedWell ∧ v.outlen = s.msglen ∧
      v.mem.readBytes obufBase v.outlen.toNat = s.mem.readBytes ibufBase s.msglen.toNat

/-- A RUN with a result, and a RUN that gives the message wherever the operands are the first one's and the
message is that result, make a round trip. -/
theorem messageRoundTrip_of_runs {i j : Instr} {s : State} {out : Bytes} (hwf : s.mem.wf = true)
    (hout : out.length < 65536) (hkeylen : s.keylen.toNat ≤ 256)
    (hfirst : exec i s = .next (runResult out s))
    (hsecond : ∀ u : State, u.params = s.params → u.msglen.toNat = out.length → u.keylen = s.keylen →
      u.key = s.key → (∀ n ≤ 16, u.iv n = s.iv n) → u.message = out →
      exec j u = .next (runResult s.message u)) :
    messageRoundTrip i j s := by
  refine ⟨_, hfirst, endedWell_runResult .., fun u hu => ?_⟩
  obtain ⟨hparams, hwfu, hmsglen, hklen, hkey, hiv, hmessage⟩ :=
    operands_of_copiedBack hwf hout hkeylen hu
  have hlen : s.message.length = s.msglen.toNat := by simp [State.message]
  refine ⟨_, hsecond u hparams hmsglen hklen hkey hiv hmessage, endedWell_runResult .., ?outlen,
    output_runResult hwfu (hlen.symm ▸ s.msglen.isLt)⟩
  case outlen => rw [runResult_outlen, hlen, BitVec.ofNat_toNat, BitVec.setWidth_eq]

/-- The padded message is shorter than BUF_BYTES, so that RUN DEC takes it, and deciphers to the message. -/
theorem messageRoundTrip_run (c : BlockCipher) (m : Chain) (iv : Bool) {s : State}
    (hparams : s.params.wellFormed = true) (hwf : s.mem.wf = true)
    (hfits : s.msglen.toNat < s.params.bufBytes - blockSize c) (hiv : m = .cbc → iv = true)
    (hkey : keyLengthOk c.cipher s.keylen.toNat = true) :
    messageRoundTrip (.run c .enc m iv) (.run c .dec m iv) s := by
  obtain ⟨-, -, hbuf⟩ := (wellFormed_iff _).mp hparams
  have hlen : (runEncrypt c m (expandBlock c s.key) (s.iv (blockSize c)) s.message).length <
      s.params.bufBytes := by
    have hmessage : s.message.length = s.msglen.toNat := by simp [State.message]
    rw [length_runEncrypt, length_pad]
    omega
  refine messageRoundTrip_of_runs hwf (by omega) (keylen_le_of_keyLengthOk hkey)
    (exec_run_accepted (by omega) hiv hkey rfl) fun u hparamsu hmsglen hklen hkeyu hivu hmessage => ?_
  refine exec_run_accepted (by rwa [hmsglen, hparamsu]) hiv (hklen ▸ hkey) ?_
  rw [hkeyu, hivu _ (blockSize_le c), hmessage]
  exact runDecrypt_runEncrypt c m s.key (Memory.length_readBytes ..) s.message

theorem messageRoundTrip_runArc4 (d d' : Dir) {s : State} (hwf : s.mem.wf = true)
    (hfits : s.msglen.toNat < s.params.bufBytes) (hkey : keyLengthOk .arc4 s.keylen.toNat = true) :
    messageRoundTrip (.runArc4 d) (.runArc4 d') s := by
  have hlen : (arc4Crypt s.key s.message).length = s.msglen.toNat := by simp [State.message]
  obtain ⟨hlo, hhi⟩ : 1 ≤ s.keylen.toNat ∧ s.keylen.toNat ≤ 256 := by simpa [keyLengthOk] using hkey
  refine messageRoundTrip_of_runs hwf (hlen ▸ s.msglen.isLt) hhi (exec_runArc4_accepted d hfits hlo hhi)
    fun u hparamsu hmsglen hklen hkeyu _ hmessage => ?_
  rw [exec_runArc4_accepted d' (by rwa [hmsglen, hparamsu, hlen]) (hklen ▸ hlo) (hklen ▸ hhi), hkeyu,
    hmessage, arc4Crypt, arc4Crypt, arc4Xor_arc4Xor]

/-- Settles O45: the second RUN has the first one's key, IV and result, and its message function inverts
the first one's. -/
theorem encryptThenDecryptGivesTheMessage : Obligations.EncryptThenDecryptGivesTheMessage :=
  ⟨fun c m iv _ hparams hwf hfits hiv hkey => messageRoundTrip_run c m iv hparams hwf hfits hiv hkey,
    fun d d' _ _ hwf hfits hkey => messageRoundTrip_runArc4 d d' hwf hfits hkey⟩

end Sys2Proof.Machine
end

section
/-! SUPPORT. What each command leaves of its operands, KEYLEN and the bytes before OBUF (20_memory.md R72);
then the statements of 49_control.md R360 and of 10_state.md R48 and R50. -/

namespace Sys2Proof.Machine

/-! ## The operands -/

/-- KEYLEN, and every byte of DATA, IV, KEY and IBUF, which all stand before OBUF, are as before
(20_memory.md R72). -/
def State.sameOperands (s t : State) : Prop :=
  t.keylen = s.keylen ∧ ∀ a, a < obufBase → t.mem.read a = s.mem.read a

/-- A string written into OBUF stands past the operands, however long it is. -/
theorem read_writeBytes_obuf (m : Memory) (v : Bytes) {a : Nat} (h : a < obufBase) :
    (m.writeBytes obufBase v).read a = m.read a :=
  Memory.read_writeBytes_outside _ _ _ (by omega)

theorem sameOperands_raise (pl : ErrorPlace) (e : CmdError) (len : Half) (s : State) :
    s.sameOperands (s.raise pl e len) :=
  ⟨State.raise_keylen .., fun _ ha => State.read_errorEffect pl s (by omega)⟩

theorem sameOperands_writeOutput (v : Bytes) (s : State) :
    s.sameOperands (s.writeOutput v).succeed :=
  ⟨rfl, fun _ ha => read_writeBytes_obuf s.mem v ha⟩

theorem sameOperands_runResult (v : Bytes) (s : State) : s.sameOperands (runResult v s) :=
  ⟨rfl, fun _ ha => read_writeBytes_obuf s.mem v ha⟩

/-! ## The commands -/

section
variable {s t : State}

theorem expandCommand_sameOperands {c : Cipher} (h : expandCommand c s = .next t) :
    s.sameOperands t := by
  rcases expandCommand_cases h with ⟨-, rfl⟩ | ⟨-, rfl⟩
  · exact ⟨rfl, fun _ _ => rfl⟩
  · exact sameOperands_raise ..

/-- A command under the store writes no byte outside DATA, and not KEYLEN (10_state.md R48). -/
theorem KeyedOutcome.memSameOutside_data (h : KeyedOutcome s t) :
    t.keylen = s.keylen ∧ s.memSameOutside dataBase 16 t := by
  rcases h with rfl | ⟨v, hlen, rfl⟩ | ⟨st, -, rfl⟩
  · exact ⟨rfl, fun _ _ => rfl⟩
  · exact ⟨rfl, fun _ ha => Memory.read_writeBytes_outside _ _ _ (by omega)⟩
  · exact ⟨rfl, fun _ _ => rfl⟩

/-- KSNEXT writes KSBYTE and the store only, where ENCB and DECB write DATA (47_arc4.md R313). -/
theorem execKsnext_sameOperands (h : execKsnext s = .next t) : s.sameOperands t := by
  unfold execKsnext at h
  split at h
  · obtain rfl := Host.Outcome.next.inj h
    exact ⟨rfl, fun _ _ => rfl⟩
  · rw [notKeyed_cases h]
    exact sameOperands_raise ..

theorem execPad_sameOperands {c : BlockCipher} (h : execPad c s = .next t) : s.sameOperands t := by
  rcases execPad_cases h with ⟨-, rfl⟩ | ⟨-, rfl⟩
  · exact sameOperands_raise ..
  · exact sameOperands_writeOutput ..

theorem execUnpad_sameOperands {c : BlockCipher} (h : execUnpad c s = .next t) :
    s.sameOperands t := by
  rcases execUnpad_cases h with ⟨-, rfl⟩ | ⟨-, -, rfl⟩ | ⟨-, d, -, rfl⟩
  · exact sameOperands_raise ..
  · exact sameOperands_raise ..
  · exact sameOperands_writeOutput ..

theorem execRun_sameOperands {c : BlockCipher} {d : Dir} {m : Chain} {iv : Bool}
    (h : execRun c d m iv s = .next t) : s.sameOperands t := by
  rcases execRun_cases h with ⟨e, len, rfl⟩ | ⟨-, -, -, out, -, rfl⟩
  · exact sameOperands_raise ..
  · exact sameOperands_runResult ..

theorem execRunArc4_sameOperands {d : Dir} (h : execRunArc4 d s = .next t) : s.sameOperands t := by
  rcases execRunArc4_cases h with ⟨e, len, rfl⟩ | ⟨-, -, rfl⟩
  · exact sameOperands_raise ..
  · exact sameOperands_runResult ..

/-- CLEAR writes KEY and no other byte (49_control.md R360). -/
theorem memSameOutside_discardKey (s : State) : s.memSameOutside keyBase 256 s.discardKey := by
  intro a ha
  rw [State.discardKey_mem, Memory.read_zeroFill, if_neg ha]

theorem execClear_memSameOutside (h : execClear s = .next t) : s.memSameOutside keyBase 256 t := by
  obtain rfl := Host.Outcome.next.inj h
  exact memSameOutside_discardKey s

/-- Everything a command can do to its operands: CLEAR writes KEY, ENCB and DECB write DATA, and the others
write none. -/
theorem exec_operands_cases {i : Instr} (h : exec i s = .next t) :
    (i = .clear ∧ s.memSameOutside keyBase 256 t) ∨
      (i ∈ [Instr.encbAes, .decbAes, .encbRc6, .decbRc6, .encbBf, .decbBf, .encbIdea, .decbIdea] ∧
        t.keylen = s.keylen ∧ s.memSameOutside dataBase 16 t) ∨
      s.sameOperands t := by
  cases i with
  | expandAes | expandRc6 | expandBf | expandIdea | expandArc4 =>
    exact .inr (.inr (expandCommand_sameOperands h))
  | encbAes => exact .inr (.inl ⟨by decide, (execEncbAes_cases h).memSameOutside_data⟩)
  | encbRc6 => exact .inr (.inl ⟨by decide, (execEncbRc6_cases h).memSameOutside_data⟩)
  | encbBf => exact .inr (.inl ⟨by decide, (execEncbBf_cases h).memSameOutside_data⟩)
  | encbIdea => exact .inr (.inl ⟨by decide, (execEncbIdea_cases h).memSameOutside_data⟩)
  | decbAes => exact .inr (.inl ⟨by decide, (execDecbAes_cases h).memSameOutside_data⟩)
  | decbRc6 => exact .inr (.inl ⟨by decide, (execDecbRc6_cases h).memSameOutside_data⟩)
  | decbBf => exact .inr (.inl ⟨by decide, (execDecbBf_cases h).memSameOutside_data⟩)
  | decbIdea => exact .inr (.inl ⟨by decide, (execDecbIdea_cases h).memSameOutside_data⟩)
  | ksnext => exact .inr (.inr (execKsnext_sameOperands h))
  | pad c => exact .inr (.inr (execPad_sameOperands h))
  | unpad c => exact .inr (.inr (execUnpad_sameOperands h))
  | run c d m iv => exact .inr (.inr (execRun_sameOperands h))
  | runArc4 d => exact .inr (.inr (execRunArc4_sameOperands (d := d) h))
  | clear => exact .inl ⟨rfl, execClear_memSameOutside h⟩

end

/-! ## The statements -/

/-- Settles O46: CLEAR has one ending, and its writes are those of `State.discardKey`. -/
theorem clearDiscardsTheKeyMaterial : Obligations.ClearDiscardsTheKeyMaterial := by
  intro s
  refine ⟨s.discardKey.succeed, rfl, endedWell_succeed _, rfl, rfl, rfl, rfl, rfl, fun k hk => ?key,
    memSameOutside_discardKey s, rfl, ?outside⟩
  case key => simp [Memory.read_zeroFill, hk]
  case outside => simp [State.sameOutsideCommand]

/-- Settles O48: KEY and DATA stand before OBUF and clear of each other, so that only the command that
writes the one or the other changes it. -/
theorem onlyClearWritesKeyAndOnlyBlockCommandsWriteData :
    Obligations.OnlyClearWritesKeyAndOnlyBlockCommandsWriteData := by
  intro i s t h
  have key_clear {k : Nat} (hk : k < 256) :
      keyBase + k < obufBase ∧ ¬(dataBase ≤ keyBase + k ∧ keyBase + k < dataBase + 16) := by
    unfold keyBase obufBase dataBase
    omega
  have data_clear {k : Nat} (hk : k < 16) :
      dataBase + k < obufBase ∧ ¬(keyBase ≤ dataBase + k ∧ dataBase + k < keyBase + 256) := by
    unfold keyBase obufBase dataBase
    omega
  rcases exec_operands_cases h with ⟨rfl, hmem⟩ | ⟨hblock, hkeylen, hmem⟩ | ⟨hkeylen, hmem⟩
  · exact ⟨fun hne => absurd rfl hne, fun _ k hk => hmem _ (data_clear hk).2⟩
  · exact ⟨fun _ => ⟨hkeylen, fun k hk => hmem _ (key_clear hk).2⟩, fun hnot => absurd hblock hnot⟩
  · exact ⟨fun _ => ⟨hkeylen, fun k hk => hmem _ (key_clear hk).1⟩,
      fun _ k hk => hmem _ (data_clear hk).1⟩

end Sys2Proof.Machine
end

section
/-! SUPPORT. How every command ends (60_exceptions.md R408 to R413), and a command under the store without its
schedule (60_exceptions.md R406); then the statements of 60_exceptions.md. -/

namespace Sys2Proof.Machine

/-! ## The two endings -/

/-- The two ways to end the command of `s`: by an error, or with success after writes of what a command
may write (10_state.md R38, 60_exceptions.md R410). -/
def State.EndsIn (s t : State) : Prop :=
  (∃ pl e len, t = s.raise pl e len) ∨ ∃ u, s.sameOutsideCommand u ∧ t = u.succeed

theorem endsIn_raise (pl : ErrorPlace) (e : CmdError) (len : Half) (s : State) :
    s.EndsIn (s.raise pl e len) := .inl ⟨pl, e, len, rfl⟩

theorem endsIn_succeed {s u : State} (h : s.sameOutsideCommand u) : s.EndsIn u.succeed :=
  .inr ⟨u, h, rfl⟩

theorem endsIn_writeOutput (v : Bytes) (s : State) : s.EndsIn (s.writeOutput v).succeed :=
  endsIn_succeed (by simp [State.sameOutsideCommand])

theorem endsIn_runResult (v : Bytes) (s : State) : s.EndsIn (runResult v s) :=
  endsIn_succeed (u := (s.writeOutput v).setSched none) (by simp [State.sameOutsideCommand])

section
variable {s t : State}

theorem expandCommand_endsIn {c : Cipher} (h : expandCommand c s = .next t) : s.EndsIn t := by
  rcases expandCommand_cases h with ⟨-, rfl⟩ | ⟨-, rfl⟩
  · exact endsIn_succeed (by simp [State.sameOutsideCommand])
  · exact endsIn_raise ..

theorem KeyedOutcome.endsIn (h : KeyedOutcome s t) : s.EndsIn t := by
  rcases h with rfl | ⟨v, -, rfl⟩ | ⟨st, -, rfl⟩
  · exact endsIn_raise ..
  · exact endsIn_succeed (by simp [State.sameOutsideCommand])
  · exact endsIn_succeed (by simp [State.sameOutsideCommand])

theorem execPad_endsIn {c : BlockCipher} (h : execPad c s = .next t) : s.EndsIn t := by
  rcases execPad_cases h with ⟨-, rfl⟩ | ⟨-, rfl⟩
  · exact endsIn_raise ..
  · exact endsIn_writeOutput ..

theorem execUnpad_endsIn {c : BlockCipher} (h : execUnpad c s = .next t) : s.EndsIn t := by
  rcases execUnpad_cases h with ⟨-, rfl⟩ | ⟨-, -, rfl⟩ | ⟨-, d, -, rfl⟩
  · exact endsIn_raise ..
  · exact endsIn_raise ..
  · exact endsIn_writeOutput ..

theorem execRun_endsIn {c : BlockCipher} {d : Dir} {m : Chain} {iv : Bool}
    (h : execRun c d m iv s = .next t) : s.EndsIn t := by
  rcases execRun_cases h with ⟨e, len, rfl⟩ | ⟨-, -, -, out, -, rfl⟩
  · exact endsIn_raise ..
  · exact endsIn_runResult ..

theorem execRunArc4_endsIn {d : Dir} (h : execRunArc4 d s = .next t) : s.EndsIn t := by
  rcases execRunArc4_cases h with ⟨e, len, rfl⟩ | ⟨-, -, rfl⟩
  · exact endsIn_raise ..
  · exact endsIn_runResult ..

theorem execClear_endsIn (h : execClear s = .next t) : s.EndsIn t := by
  obtain rfl : s.discardKey.succeed = t := by simpa [execClear] using h
  exact endsIn_succeed (by simp [State.sameOutsideCommand])

/-- Every command ends in one of the two ways. -/
theorem exec_endsIn {i : Instr} (h : exec i s = .next t) : s.EndsIn t := by
  cases i with
  | expandAes | expandRc6 | expandBf | expandIdea | expandArc4 => exact expandCommand_endsIn h
  | encbAes => exact (execEncbAes_cases h).endsIn
  | encbRc6 => exact (execEncbRc6_cases h).endsIn
  | encbBf => exact (execEncbBf_cases h).endsIn
  | encbIdea => exact (execEncbIdea_cases h).endsIn
  | decbAes => exact (execDecbAes_cases h).endsIn
  | decbRc6 => exact (execDecbRc6_cases h).endsIn
  | decbBf => exact (execDecbBf_cases h).endsIn
  | decbIdea => exact (execDecbIdea_cases h).endsIn
  | ksnext => exact (execKsnext_cases h).endsIn
  | pad c => exact execPad_endsIn h
  | unpad c => exact execUnpad_endsIn h
  | run c d m iv => exact execRun_endsIn h
  | runArc4 d => exact execRunArc4_endsIn (d := d) h
  | clear => exact execClear_endsIn h

/-- With a command in flight the engine's turn ends it, also where its word does not decode. -/
theorem engineTurn_endsIn {w : Word} (hpending : s.pending = some w) (h : engineTurn s = .next t) :
    s.EndsIn t := by
  rcases engineTurn_cases h with ⟨hidle, -⟩ | ⟨_, i, -, -, hexec⟩ | ⟨_, -, -, rfl⟩ | ⟨_, -, -, rfl⟩
  · rw [hidle] at hpending
    cases hpending
  · exact exec_endsIn hexec
  · exact endsIn_raise ..
  · exact endsIn_raise ..

/-- An ending leaves no command in flight, sets DONE, and keeps CTRL.IE and OVR (10_state.md R38). -/
theorem State.EndsIn.pending_done_ie_ovr (h : s.EndsIn t) :
    t.pending = none ∧ t.done = true ∧ t.ie = s.ie ∧ t.ovr = s.ovr := by
  rcases h with ⟨pl, e, len, rfl⟩ | ⟨u, ⟨-, hie, hovr, -⟩, rfl⟩
  · simp
  · exact ⟨rfl, rfl, hie, hovr⟩

/-- The flags after an ending are those of a success or of an error, whatever they were before it. -/
theorem State.EndsIn.flagsOk (h : s.EndsIn t) : FlagsOk t.pending t.done t.err t.errinfo := by
  rcases h with ⟨pl, e, len, rfl⟩ | ⟨u, -, rfl⟩
  · simpa using flagsOk_error true e s.captured len
  · exact flagsOk_idle true

end

/-! ## A command without its schedule (60_exceptions.md R406) -/

/-- ENCB c and DECB c run only under a block schedule with c's tag. In each case `hstore` rules out the one
arm of the command that gives a result; `simp` finds it in the context. -/
theorem exec_block_notKeyed {c : BlockCipher} {s : State}
    (h : ∀ k, s.sched = some k → k.tag ≠ c.cipher.id.setWidth 3) :
    exec (encbInstr c) s = notKeyed s ∧ exec (decbInstr c) s = notKeyed s := by
  cases c with
  | aes =>
    have hstore : ∀ nr w, s.sched ≠ some (.block (.aes nr w)) := fun _ _ hs => h _ hs rfl
    simp [exec, encbInstr, decbInstr, execEncbAes, execDecbAes]
  | rc6 =>
    have hstore : ∀ k, s.sched ≠ some (.block (.rc6 k)) := fun _ hs => h _ hs rfl
    simp [exec, encbInstr, decbInstr, execEncbRc6, execDecbRc6]
  | bf =>
    have hstore : ∀ t, s.sched ≠ some (.block (.bf t)) := fun _ hs => h _ hs rfl
    simp [exec, encbInstr, decbInstr, execEncbBf, execDecbBf]
  | idea =>
    have hstore : ∀ z dk, s.sched ≠ some (.block (.idea z dk)) := fun _ _ hs => h _ hs rfl
    simp [exec, encbInstr, decbInstr, execEncbIdea, execDecbIdea]

/-- KSNEXT runs only under an ARC4 state. -/
theorem exec_ksnext_notKeyed {s : State}
    (h : ∀ k, s.sched = some k → k.tag ≠ Cipher.arc4.id.setWidth 3) :
    exec .ksnext s = notKeyed s := by
  have hstore : ∀ st, s.sched ≠ some (.arc4 st) := fun _ hs => h _ hs rfl
  simp [exec, execKsnext]

/-- `NotKeyed` discards nothing: its row of 60_exceptions.md R410 is empty. -/
theorem onlyStatus_raise_keyed (e : CmdError) (len : Half) (s : State) :
    s.onlyStatus (s.raise .keyed e len) :=
  ⟨sameOutsideCommand_raise .., by simp [State.sameResults], fun _ => rfl⟩

/-! ## The statements -/

/-- Settles O9: the engine's turn ends the command, and both endings leave the flags of a completion. -/
theorem everyCompletionSetsDoneAndFreesTheCore :
    Obligations.EveryCompletionSetsDoneAndFreesTheCore := by
  intro s w hpending
  obtain ⟨t, hturn⟩ := engineTurn_answers_next s
  have hend : s.EndsIn t := engineTurn_endsIn hpending hturn
  obtain ⟨hfree, hdone, hie, hovr⟩ := hend.pending_done_ie_ovr
  have hbusy : t.busy = false := by simp [State.busy, hfree]
  have hirq : t.irq = s.ie := by simp [State.irq, hie, hdone]
  exact ⟨t, hturn, hbusy, hfree, hdone, hirq, hie, hovr, hend.flagsOk.errProduced,
    hend.flagsOk.errinfoZero hbusy⟩

/-- Settles O34: each of the nine commands, under a store without its tag, raises `NotKeyed`, whose effect
is empty. -/
theorem notKeyedChangesOnlyStatus : Obligations.NotKeyedChangesOnlyStatus := by
  intro p hp s w hpending hother
  have hexec : exec p.1 s = notKeyed s := by
    simp only [List.mem_cons, List.not_mem_nil, or_false] at hp
    rcases hp with rfl | rfl | rfl | rfl | rfl | rfl | rfl | rfl | rfl
    exacts [(exec_block_notKeyed (c := .aes) hother).1, (exec_block_notKeyed (c := .aes) hother).2,
      (exec_block_notKeyed (c := .rc6) hother).1, (exec_block_notKeyed (c := .rc6) hother).2,
      (exec_block_notKeyed (c := .bf) hother).1, (exec_block_notKeyed (c := .bf) hother).2,
      (exec_block_notKeyed (c := .idea) hother).1, (exec_block_notKeyed (c := .idea) hother).2,
      exec_ksnext_notKeyed hother]
  exact ⟨_, hexec, endedWith_raise hpending .., onlyStatus_raise_keyed ..⟩

end Sys2Proof.Machine
end

section
/-! 70_reset_and_hazards.md: the soft reset, a write of CTRL with SRST = 1 (R451). -/

namespace Sys2Proof.Machine

/-- A write of CTRL with SRST = 1 resets the core; bit 0 of the write and `pending` do not enter
(70_reset_and_hazards.md R451). -/
theorem writeCtrl_srst {v : Word} (s : State) (hsrst : v.getLsbD 1 = true) :
    s.writeCtrl v = s.resetCore := if_pos hsrst

/-- The step that serves such a write is the core's reset and the bus's reply (20_memory.md R73). -/
theorem step_writeAt_srst {s : State} {v : Word} {rest : List Turn}
    (hturn : s.agenda = writeAt s.params 0x004 v :: rest) (hsrst : v.getLsbD 1 = true) :
    step s = .next (s.resetCore.setAgenda rest).replyWritten := by
  have hstep := step_writeAt hturn (by decide) (by decide)
  rwa [writeWord_ctrl, writeCtrl_srst s hsrst] at hstep

/-- Settles O21: the step of the write is the core's reset, which leaves every register, IE and `pending`
included, at its reset value. -/
theorem softResetAbandonsTheCommand : Obligations.SoftResetAbandonsTheCommand := by
  intro s v rest hturn hsrst
  have hreset : s.coreReset (s.resetCore.setAgenda rest).replyWritten :=
    (coreReset_setAgenda_replyWritten s s.resetCore rest).mpr (coreReset_resetCore s)
  exact ⟨_, step_writeAt_srst hturn hsrst, hreset, rfl, rfl⟩

end Sys2Proof.Machine
end

section
/-! SUPPORT. Command words and their fields, the decoder's tests one by one, and what each outcome of the
decoder says of the fields (30_encoding.md R100 to R106, R110); then the statements of 30_encoding.md. -/

namespace Sys2Proof

/-! ## Words and fields (30_encoding.md R100) -/

/-- Two neighbouring fields of a word, joined. -/
theorem extractLsb'_append_eq (w : Word) {a m n : Nat} :
    w.extractLsb' (a + m) n ++ w.extractLsb' a m = w.extractLsb' a (n + m) :=
  BitVec.extractLsb'_append_extractLsb'_eq_extractLsb' rfl

theorem word_fieldsOf (w : Word) : (fieldsOf w).word = w := by
  have hwhole : w.extractLsb' 0 32 = w := by simp
  refine Eq.trans ?_ hwhole
  rw [CmdFields.word, fieldsOf, extractLsb'_append_eq w (a := 15) (m := 1),
    extractLsb'_append_eq w (a := 13) (m := 2), extractLsb'_append_eq w (a := 12) (m := 1),
    extractLsb'_append_eq w (a := 8) (m := 4), extractLsb'_append_eq w (a := 0) (m := 8)]

theorem fieldsOf_word (f : CmdFields) : fieldsOf f.word = f := by
  obtain ⟨op, ciph, dir, chain, ivp, rsv⟩ := f
  simp only [fieldsOf, CmdFields.mk.injEq]
  refine ⟨?_, ?_, ?_, ?_, ?_, ?_⟩ <;>
  · refine BitVec.eq_of_getLsbD_eq fun n hn => ?_
    simp only [BitVec.getLsbD_extractLsb', CmdFields.word, BitVec.getLsbD_append]
    interval_cases n <;> simp

/-- A word is the word of some fields exactly when they are its own. -/
theorem eq_word_iff {w : Word} {f : CmdFields} : w = f.word ↔ fieldsOf w = f :=
  ⟨fun h => h ▸ fieldsOf_word f, fun h => h ▸ (word_fieldsOf w).symm⟩

/-! ## The fields' values (30_encoding.md R100 to R102) -/

theorem cipherOf_eq_some_iff {x : BitVec 4} {c : Cipher} : cipherOf x = some c ↔ x = c.id := by
  cases c <;> revert x <;> decide

theorem cipherOf_eq_none_iff {x : BitVec 4} : cipherOf x = none ↔ 5 ≤ x.toNat := by
  revert x
  decide

theorem chainOf_eq_some_iff {x : BitVec 2} {m : Chain} : chainOf x = some m ↔ x = m.bits := by
  cases m <;> revert x <;> decide

theorem chainOf_eq_none_iff {x : BitVec 2} : chainOf x = none ↔ 2 ≤ x.toNat := by
  revert x
  decide

theorem bit_dirOf (x : BitVec 1) : (dirOf x).bit = x := by
  revert x
  decide

theorem block_eq_some_iff {c : Cipher} {b : BlockCipher} : c.block = some b ↔ c = b.cipher := by
  cases c <;> cases b <;> decide

theorem block_eq_none_iff {c : Cipher} : c.block = none ↔ c = .arc4 := by
  cases c <;> decide

/-! ## The decoder's tests (30_encoding.md R104) -/

/-- DIR, CHAIN and IVP, the fields that only RUN has, are 0 (30_encoding.md R106). -/
def CmdFields.unmodified (f : CmdFields) : Prop := f.dir = 0 ∧ f.chain = 0 ∧ f.ivp = 0

/-- The fields pass the decoder's tests before that of the cipher id. -/
def CmdFields.passesEarly (f : CmdFields) : Prop :=
  f.rsv = 0 ∧ 1 ≤ f.op.toNat ∧ f.op.toNat ≤ 8 ∧ (f.op = 8 → f.ciph = 0 ∧ f.unmodified) ∧
    (f.op ≠ 7 → f.unmodified)

/-- The fields fail one of the decoder's tests after that of the cipher id. -/
def CmdFields.failsLate (f : CmdFields) : Prop :=
  (f.ciph = 4 ∧ (f.op = 2 ∨ f.op = 3 ∨ f.op = 5 ∨ f.op = 6)) ∨ (f.op = 4 ∧ f.ciph ≠ 4) ∨
    (f.op = 7 ∧ 2 ≤ f.chain.toNat) ∨ (f.op = 7 ∧ f.ciph = 4 ∧ ¬(f.chain = 0 ∧ f.ivp = 0))

theorem decodeFields_of_not_passesEarly {f : CmdFields} (h : ¬f.passesEarly) :
    decodeFields f = .illegal := by
  unfold decodeFields
  split_ifs with hrsv hop hclear hmods hbits
  · rfl
  · rfl
  · rfl
  · simp only [not_or, ne_eq, not_not] at hrsv hop hmods
    obtain ⟨hciph, hmods⟩ := hmods
    exact absurd ⟨hrsv, by omega, by omega, fun _ => ⟨hciph, hmods⟩, fun _ => hmods⟩ h
  · rfl
  · simp only [not_or, not_and, ne_eq, not_not] at hrsv hop hbits
    exact absurd ⟨hrsv, by omega, by omega, fun h8 => absurd h8 hclear, hbits⟩ h

theorem decodeFields_clear {f : CmdFields} (h : f.passesEarly) (hop : f.op = 8) :
    decodeFields f = .cmd .clear := by
  obtain ⟨hrsv, -, -, hclear, -⟩ := h
  obtain ⟨hciph, hdir, hchain, hivp⟩ := hclear hop
  simp [decodeFields, hrsv, hop, hciph, hdir, hchain, hivp]

/-- Past the early tests the cipher id decides between `Unknown` and the command of its cipher. -/
theorem decodeFields_cipher {f : CmdFields} (h : f.passesEarly) (hop : f.op ≠ 8) :
    decodeFields f = (cipherOf f.ciph).elim .unknown (decodeOp f) := by
  obtain ⟨hrsv, hlo, hhi, -, hmods⟩ := h
  have hbits : ¬(f.op ≠ 7 ∧ (f.dir ≠ 0 ∨ f.chain ≠ 0 ∨ f.ivp ≠ 0)) := by
    rintro ⟨h7, hbits⟩
    obtain ⟨hdir, hchain, hivp⟩ := hmods h7
    simp [hdir, hchain, hivp] at hbits
  rw [decodeFields, if_neg (not_not.mpr hrsv), if_neg (by omega), if_neg hop, if_neg hbits]
  cases cipherOf f.ciph <;> rfl

theorem decodeFields_unknown {f : CmdFields} (h : f.passesEarly) (hop : f.op ≠ 8)
    (hciph : 5 ≤ f.ciph.toNat) : decodeFields f = .unknown := by
  rw [decodeFields_cipher h hop, cipherOf_eq_none_iff.mpr hciph, Option.elim_none]

theorem decodeFields_known {f : CmdFields} {c : Cipher} (h : f.passesEarly) (hop : f.op ≠ 8)
    (hciph : f.ciph = c.id) : decodeFields f = decodeOp f c := by
  rw [decodeFields_cipher h hop, cipherOf_eq_some_iff.mpr hciph, Option.elim_some]

/-- A cipher id is that of a cipher or at least 5. -/
theorem ciph_cases (x : BitVec 4) : (∃ c : Cipher, x = c.id) ∨ 5 ≤ x.toNat := by
  cases h : cipherOf x with
  | none => exact .inr (cipherOf_eq_none_iff.mp h)
  | some c => exact .inl ⟨c, cipherOf_eq_some_iff.mp h⟩

/-- The OPs that take a cipher. -/
theorem op_cases {x : BitVec 8} (hlo : 1 ≤ x.toNat) (hhi : x.toNat ≤ 8) (h8 : x ≠ 8) :
    x = 1 ∨ x = 2 ∨ x = 3 ∨ x = 4 ∨ x = 5 ∨ x = 6 ∨ x = 7 := by
  simp only [← BitVec.toNat_inj, ne_eq] at h8 ⊢
  simp at h8 ⊢
  omega

/-! ## The command of OP and a cipher (30_encoding.md R104) -/

theorem blockOnly_cipher (g : BlockCipher → Instr) (b : BlockCipher) :
    blockOnly g b.cipher = .cmd (g b) := by
  rw [blockOnly, block_eq_some_iff.mpr rfl]

theorem blockOnly_arc4 (g : BlockCipher → Instr) : blockOnly g .arc4 = .illegal := rfl

/-- A cipher is a block cipher or ARC4. -/
theorem cipher_cases (c : Cipher) : (∃ b : BlockCipher, c = b.cipher) ∨ c = .arc4 := by
  cases h : c.block with
  | none => exact .inr (block_eq_none_iff.mp h)
  | some b => exact .inl ⟨b, block_eq_some_iff.mp h⟩

theorem blockCipher_id_ne (b : BlockCipher) : b.cipher.id ≠ 4 := by cases b <;> decide

/-- CHAIN is that of a chaining or at least 2. -/
theorem chain_cases (x : BitVec 2) : (∃ m : Chain, x = m.bits) ∨ 2 ≤ x.toNat := by
  cases h : chainOf x with
  | none => exact .inr (chainOf_eq_none_iff.mp h)
  | some m => exact .inl ⟨m, chainOf_eq_some_iff.mp h⟩

theorem decodeRun_block {f : CmdFields} {m : Chain} (h : f.chain = m.bits) (b : BlockCipher) :
    decodeRun f b.cipher = .cmd (.run b (dirOf f.dir) m (f.ivp == 1)) := by
  rw [decodeRun, chainOf_eq_some_iff.mpr h]
  dsimp only
  rw [block_eq_some_iff.mpr rfl]

theorem decodeRun_reserved {f : CmdFields} (h : 2 ≤ f.chain.toNat) (c : Cipher) :
    decodeRun f c = .illegal := by
  rw [decodeRun, chainOf_eq_none_iff.mpr h]

theorem decodeRun_arc4 {f : CmdFields} {m : Chain} (h : f.chain = m.bits) :
    decodeRun f .arc4 =
      if f.chain = 0 ∧ f.ivp = 0 then .cmd (.runArc4 (dirOf f.dir)) else .illegal := by
  rw [decodeRun, chainOf_eq_some_iff.mpr h]
  rfl

theorem decodeOp_of_failsLate {f : CmdFields} {c : Cipher} (h : f.failsLate) (hciph : f.ciph = c.id) :
    decodeOp f c = .illegal := by
  have harc4 (h4 : f.ciph = 4) : c = .arc4 := by
    rcases cipher_cases c with ⟨b, rfl⟩ | rfl
    · exact absurd (hciph.symm.trans h4) (blockCipher_id_ne b)
    · rfl
  rcases h with ⟨h4, hop⟩ | ⟨hop, h4⟩ | ⟨hop, hchain⟩ | ⟨hop, h4, hmods⟩
  · obtain rfl := harc4 h4
    rcases hop with hop | hop | hop | hop <;> simp [decodeOp, hop, blockOnly_arc4]
  · have hne : c ≠ .arc4 := fun h => h4 (hciph.trans (h ▸ rfl))
    simp [decodeOp, hop, hne]
  · simp [decodeOp, hop, decodeRun_reserved hchain]
  · obtain rfl := harc4 h4
    rcases chain_cases f.chain with ⟨m, hm⟩ | hchain
    · exact (by simp [decodeOp, hop] : _ = decodeRun f .arc4).trans
        ((decodeRun_arc4 hm).trans (if_neg hmods))
    · simp [decodeOp, hop, decodeRun_reserved hchain]

theorem eq_plainFields {f : CmdFields} {c : Cipher} (hrsv : f.rsv = 0) (hciph : f.ciph = c.id)
    (hmods : f.unmodified) : f = plainFields f.op c := by
  obtain ⟨op, ciph, dir, chain, ivp, rsv⟩ := f
  obtain ⟨hdir, hchain, hivp⟩ := hmods
  exact CmdFields.mk.injEq .. |>.mpr ⟨rfl, hciph, hdir, hchain, hivp, hrsv⟩

/-- Fields with RUN's OP, a block cipher and a chaining are those of a RUN. -/
theorem eq_fields_run {f : CmdFields} {b : BlockCipher} {m : Chain} (hrsv : f.rsv = 0) (hop : f.op = 7)
    (hciph : f.ciph = b.cipher.id) (hchain : f.chain = m.bits) :
    f = (Instr.run b (dirOf f.dir) m (f.ivp == 1)).fields := by
  have hivp : f.ivp = if (f.ivp == 1) = true then 1 else 0 := by
    generalize f.ivp = x
    revert x
    decide
  rw [Instr.fields, bit_dirOf, ← hivp, ← hchain, ← hop]
  exact CmdFields.mk.injEq .. |>.mpr ⟨rfl, hciph, rfl, rfl, rfl, hrsv⟩

/-- Fields with RUN's OP and ARC4, and with no chaining and no IV, are those of a RUN ARC4. -/
theorem eq_fields_runArc4 {f : CmdFields} (hrsv : f.rsv = 0) (hop : f.op = 7)
    (hciph : f.ciph = Cipher.arc4.id) (hchain : f.chain = 0) (hivp : f.ivp = 0) :
    f = (Instr.runArc4 (dirOf f.dir)).fields := by
  rw [Instr.fields, bit_dirOf, ← hop]
  exact CmdFields.mk.injEq .. |>.mpr ⟨rfl, hciph, rfl, hchain, hivp, hrsv⟩

/-- RUN's fields are those of the command that RUN decodes to. -/
theorem decodeOp_run {f : CmdFields} {c : Cipher} (hrsv : f.rsv = 0) (hop : f.op = 7)
    (hciph : f.ciph = c.id) (hlate : ¬f.failsLate) : ∃ i, decodeOp f c = .cmd i ∧ f = i.fields := by
  have hrun : decodeOp f c = decodeRun f c := by simp [decodeOp, hop]
  obtain ⟨m, hm⟩ : ∃ m : Chain, f.chain = m.bits := (chain_cases f.chain).resolve_right
    fun hchain => hlate (.inr (.inr (.inl ⟨hop, hchain⟩)))
  rcases cipher_cases c with ⟨b, rfl⟩ | rfl
  · exact ⟨_, hrun.trans (decodeRun_block hm b), eq_fields_run hrsv hop hciph hm⟩
  · obtain ⟨hchain, hivp⟩ : f.chain = 0 ∧ f.ivp = 0 := by
      by_contra hmods
      exact hlate (.inr (.inr (.inr ⟨hop, hciph, hmods⟩)))
    exact ⟨_, hrun.trans ((decodeRun_arc4 hm).trans (if_pos ⟨hchain, hivp⟩)),
      eq_fields_runArc4 hrsv hop hciph hchain hivp⟩

/-- Fields that pass every test are those of the command they decode to (30_encoding.md R110). -/
theorem decodeOp_of_passes {f : CmdFields} {c : Cipher} (h : f.passesEarly) (hop : f.op ≠ 8)
    (hciph : f.ciph = c.id) (hlate : ¬f.failsLate) : ∃ i, decodeOp f c = .cmd i ∧ f = i.fields := by
  obtain ⟨hrsv, hlo, hhi, -, hmods⟩ := h
  have hplain (h7 : f.op ≠ 7) : f = plainFields f.op c := eq_plainFields hrsv hciph (hmods h7)
  have hblock (hop : f.op = 2 ∨ f.op = 3 ∨ f.op = 5 ∨ f.op = 6) : ∃ b : BlockCipher, c = b.cipher :=
    (cipher_cases c).resolve_right fun hc => hlate
      (.inl ⟨hciph.trans (congrArg Cipher.id hc), hop⟩)
  rcases op_cases hlo hhi hop with h | h | h | h | h | h | h
  · refine ⟨expandInstr c, by simp [decodeOp, h], (hplain (by simp [h])).trans ?_⟩
    rw [h]
    cases c <;> rfl
  · obtain ⟨b, rfl⟩ := hblock (by simp [h])
    refine ⟨encbInstr b, by simp [decodeOp, h, blockOnly_cipher], (hplain (by simp [h])).trans ?_⟩
    rw [h]
    cases b <;> rfl
  · obtain ⟨b, rfl⟩ := hblock (by simp [h])
    refine ⟨decbInstr b, by simp [decodeOp, h, blockOnly_cipher], (hplain (by simp [h])).trans ?_⟩
    rw [h]
    cases b <;> rfl
  · obtain rfl : c = .arc4 := (cipher_cases c).resolve_left fun ⟨b, hb⟩ =>
      hlate (.inr (.inl ⟨h, hciph.trans_ne (hb ▸ blockCipher_id_ne b)⟩))
    exact ⟨.ksnext, by simp [decodeOp, h], (hplain (by simp [h])).trans (by rw [h]; rfl)⟩
  · obtain ⟨b, rfl⟩ := hblock (by simp [h])
    exact ⟨.pad b, by simp [decodeOp, h, blockOnly_cipher],
      (hplain (by simp [h])).trans (by rw [h]; rfl)⟩
  · obtain ⟨b, rfl⟩ := hblock (by simp [h])
    exact ⟨.unpad b, by simp [decodeOp, h, blockOnly_cipher],
      (hplain (by simp [h])).trans (by rw [h]; rfl)⟩
  · exact decodeOp_run hrsv h hciph hlate

/-! ## The outcomes of decoding -/

theorem ciph_lt_five (c : Cipher) : c.id.toNat < 5 := by cases c <;> decide

/-- Everything decoding can answer, and when (30_encoding.md R104; 60_exceptions.md R420). -/
theorem decodeFields_cases (f : CmdFields) :
    (¬f.passesEarly ∧ decodeFields f = .illegal) ∨
      (f.passesEarly ∧ f.op ≠ 8 ∧ 5 ≤ f.ciph.toNat ∧ decodeFields f = .unknown) ∨
      (f.passesEarly ∧ f.op ≠ 8 ∧ f.ciph.toNat < 5 ∧ f.failsLate ∧ decodeFields f = .illegal) ∨
      (f.passesEarly ∧ f.ciph.toNat < 5 ∧ ¬f.failsLate ∧
        ∃ i, decodeFields f = .cmd i ∧ f = i.fields) := by
  by_cases hearly : f.passesEarly
  swap
  · exact .inl ⟨hearly, decodeFields_of_not_passesEarly hearly⟩
  by_cases hop : f.op = 8
  · obtain ⟨hrsv, -, -, hclear, -⟩ := id hearly
    obtain ⟨hciph, hmods⟩ := hclear hop
    refine .inr (.inr (.inr ⟨hearly, by simp [hciph], by simp [CmdFields.failsLate, hop], .clear,
      decodeFields_clear hearly hop, ?_⟩))
    exact (eq_plainFields (c := .aes) hrsv hciph hmods).trans (by rw [hop]; rfl)
  rcases ciph_cases f.ciph with ⟨c, hciph⟩ | hciph
  swap
  · exact .inr (.inl ⟨hearly, hop, hciph, decodeFields_unknown hearly hop hciph⟩)
  have hknown := decodeFields_known hearly hop hciph
  have hlt : f.ciph.toNat < 5 := hciph ▸ ciph_lt_five c
  by_cases hlate : f.failsLate
  · exact .inr (.inr (.inl ⟨hearly, hop, hlt, hlate,
      hknown.trans (decodeOp_of_failsLate hlate hciph)⟩))
  · obtain ⟨i, hi, hf⟩ := decodeOp_of_passes hearly hop hciph hlate
    exact .inr (.inr (.inr ⟨hearly, hlt, hlate, i, hknown.trans hi, hf⟩))

theorem eq_fields_of_decodeFields {f : CmdFields} {i : Instr} (h : decodeFields f = .cmd i) :
    f = i.fields := by
  rcases decodeFields_cases f with ⟨-, hf⟩ | ⟨-, -, -, hf⟩ | ⟨-, -, -, -, hf⟩ | ⟨-, -, -, j, hf, hj⟩ <;>
    rw [hf] at h
  · cases h
  · cases h
  · cases h
  · rw [hj, Decoded.cmd.inj h]

/-- An instruction's fields decode to it. -/
theorem decodeFields_fields (i : Instr) : decodeFields i.fields = .cmd i := by
  cases i with
  | pad c | unpad c => cases c <;> rfl
  | run c d m iv => cases c <;> cases d <;> cases m <;> cases iv <;> rfl
  | runArc4 d => cases d <;> rfl
  | _ => rfl

theorem decodeFields_eq_cmd_iff {f : CmdFields} {i : Instr} :
    decodeFields f = .cmd i ↔ f = i.fields :=
  ⟨eq_fields_of_decodeFields, fun h => h ▸ decodeFields_fields i⟩

theorem decode_eq_cmd_iff {w : Word} {i : Instr} : decode w = .cmd i ↔ w = encode i :=
  decodeFields_eq_cmd_iff.trans eq_word_iff.symm

/-- Settles O2: decoding reads the fields of a word back, and only an instruction's own fields pass every
test that leads to it. -/
theorem wordDecodesToInstrIffItIsItsEncoding : Obligations.WordDecodesToInstrIffItIsItsEncoding :=
  fun _ _ => decode_eq_cmd_iff

/-! ## Illegal and Unknown words from their bits (30_encoding.md R106; 60_exceptions.md R420) -/

/-- A field of a word is 0 exactly when the two parts it joins are. -/
theorem extractLsb'_eq_zero_iff (w : Word) (a m n : Nat) : w.extractLsb' a (n + m) = 0 ↔
    w.extractLsb' a m = 0 ∧ w.extractLsb' (a + m) n = 0 := by
  rw [← extractLsb'_append_eq]
  constructor
  · intro h
    have hlow := congrArg (BitVec.extractLsb' 0 m) h
    have hhigh := congrArg (BitVec.extractLsb' m n) h
    rw [BitVec.extractLsb'_append_eq_right] at hlow
    rw [BitVec.extractLsb'_append_eq_left] at hhigh
    exact ⟨by simpa using hlow, by simpa using hhigh⟩
  · rintro ⟨hlow, hhigh⟩
    simp [hlow, hhigh]

/-- Bits [15:12] are DIR, CHAIN and IVP. -/
theorem unmodified_iff (w : Word) : (fieldsOf w).unmodified ↔ w.extractLsb' 12 4 = 0 := by
  rw [extractLsb'_eq_zero_iff w 12 1 3, extractLsb'_eq_zero_iff w 13 2 1]
  rfl

/-- Bits [15:8] are CIPH and the four above it. -/
theorem ciph_unmodified_iff (w : Word) :
    (fieldsOf w).ciph = 0 ∧ (fieldsOf w).unmodified ↔ w.extractLsb' 8 8 = 0 := by
  rw [extractLsb'_eq_zero_iff w 8 4 4, unmodified_iff]
  rfl

theorem ivp_eq_zero_iff (w : Word) : (fieldsOf w).ivp = 0 ↔ w.getLsbD 15 = false := by
  simp [fieldsOf, BitVec.eq_of_getLsbD_eq_iff]

theorem op_eq_iff (f : CmdFields) {n : Nat} (hn : n < 256) : f.op = BitVec.ofNat 8 n ↔ f.op.toNat = n := by
  rw [← BitVec.toNat_inj, BitVec.toNat_ofNat, Nat.mod_eq_of_lt hn]

theorem ciph_eq_iff (f : CmdFields) {n : Nat} (hn : n < 16) :
    f.ciph = BitVec.ofNat 4 n ↔ f.ciph.toNat = n := by
  rw [← BitVec.toNat_inj, BitVec.toNat_ofNat, Nat.mod_eq_of_lt hn]

/-- The early tests as conditions on a word's bits. -/
theorem passesEarly_iff (w : Word) :
    let op := (w.extractLsb' 0 8).toNat
    (fieldsOf w).passesEarly ↔ ¬(w.extractLsb' 16 16 ≠ 0 ∨ op = 0 ∨ 8 < op ∨
      (op = 8 ∧ w.extractLsb' 8 8 ≠ 0) ∨ (op ≠ 7 ∧ w.extractLsb' 12 4 ≠ 0)) := by
  intro op
  have h7 : (fieldsOf w).op = 7 ↔ op = 7 := op_eq_iff _ (by decide)
  have h8 : (fieldsOf w).op = 8 ↔ op = 8 := op_eq_iff _ (by decide)
  have hop : (fieldsOf w).op.toNat = op := rfl
  have hrsv : (fieldsOf w).rsv = w.extractLsb' 16 16 := rfl
  rw [CmdFields.passesEarly, ciph_unmodified_iff]
  simp only [unmodified_iff, ne_eq, h7, h8, hop, hrsv, Nat.one_le_iff_ne_zero, not_or, not_and,
    not_not, Nat.not_lt]

/-- The late tests as conditions on a word's bits, for a known cipher id. -/
theorem failsLate_iff (w : Word) :
    let op := (w.extractLsb' 0 8).toNat
    let ciph := (w.extractLsb' 8 4).toNat
    let chain := (w.extractLsb' 13 2).toNat
    ciph < 5 → ((fieldsOf w).failsLate ↔
      (ciph = 4 ∧ (op = 2 ∨ op = 3 ∨ op = 5 ∨ op = 6)) ∨ (op = 4 ∧ ciph < 4) ∨
      (op = 7 ∧ 2 ≤ chain) ∨ (op = 7 ∧ ciph = 4 ∧ (chain ≠ 0 ∨ w.getLsbD 15 = true))) := by
  intro op ciph chain hknown
  have hciph : (fieldsOf w).ciph = 4 ↔ ciph = 4 := ciph_eq_iff _ (by decide)
  have hchain : (fieldsOf w).chain = 0 ↔ chain = 0 := BitVec.toNat_inj.symm
  have hreserved : (fieldsOf w).chain.toNat = chain := rfl
  have hlt : ciph < 4 ↔ ciph ≠ 4 := by omega
  have h2 : (fieldsOf w).op = 2 ↔ op = 2 := op_eq_iff _ (by decide)
  have h3 : (fieldsOf w).op = 3 ↔ op = 3 := op_eq_iff _ (by decide)
  have h4 : (fieldsOf w).op = 4 ↔ op = 4 := op_eq_iff _ (by decide)
  have h5 : (fieldsOf w).op = 5 ↔ op = 5 := op_eq_iff _ (by decide)
  have h6 : (fieldsOf w).op = 6 ↔ op = 6 := op_eq_iff _ (by decide)
  have h7 : (fieldsOf w).op = 7 ↔ op = 7 := op_eq_iff _ (by decide)
  rw [CmdFields.failsLate, h2, h3, h4, h5, h6, h7, hlt, ne_eq, hciph, hchain, hreserved,
    ivp_eq_zero_iff, not_and_or, Bool.not_eq_false]

/-- Settles O5: the early tests, the cipher id and the late tests decide the outcome in this order, and each
is a condition on the word's bits. -/
theorem decodeErrorsByPriority : Obligations.DecodeErrorsByPriority := by
  intro w op ciph chain early late
  have hearly : (fieldsOf w).passesEarly ↔ ¬early := passesEarly_iff w
  have hlate : ciph < 5 → ((fieldsOf w).failsLate ↔ late) := failsLate_iff w
  have hop : (fieldsOf w).op ≠ 8 ↔ op ≠ 8 := (op_eq_iff _ (by decide)).not
  have hciph : (fieldsOf w).ciph.toNat = ciph := rfl
  have hcases := decodeFields_cases (fieldsOf w)
  rw [hearly, hop, hciph] at hcases
  rw [decode]
  rcases hcases with ⟨hfail, h⟩ | ⟨hpass, h8, hunknown, h⟩ | ⟨hpass, h8, hlt, hfail, h⟩ |
    ⟨hpass, hlt, hrest, i, h, -⟩ <;> rw [h]
  · simp [not_not.mp hfail]
  · simp [hpass, h8, hunknown]
  · simp [hpass, hlt, (hlate hlt).mp hfail]
  · simp [hpass, hlt, (hlate hlt).not.mp hrest]

/-! ## Well-formed fields (30_encoding.md R106) -/

/-- The checks of R106, in another order, are the decoder's tests. -/
theorem passes_of_wellFormed {f : CmdFields} (h : f.wellFormed = true) :
    f.passesEarly ∧ f.ciph.toNat < 5 ∧ ¬f.failsLate := by
  simp only [CmdFields.wellFormed, CmdFields.rsvOk, CmdFields.opOk, CmdFields.clearOk,
    CmdFields.modifiersOk, CmdFields.cipherOk, CmdFields.pairingOk, CmdFields.chainOk,
    Bool.and_eq_true, Bool.or_eq_true, Bool.not_eq_true', beq_iff_eq, bne_iff_ne, decide_eq_true_eq,
    Bool.or_eq_false_iff, beq_eq_false_iff_ne] at h
  obtain ⟨⟨⟨⟨⟨⟨hrsv, hlo, hhi⟩, hclear⟩, hmods⟩, hciph⟩, hblock, hksnext⟩, hchain⟩ := h
  refine ⟨⟨hrsv, hlo, hhi, fun h8 => ?_, fun h7 => ?_⟩, ?_, ?_⟩
  · obtain ⟨⟨⟨hciph, hdir⟩, hchain⟩, hivp⟩ := hclear.resolve_left (not_not.mpr h8)
    exact ⟨hciph, hdir, hchain, hivp⟩
  · obtain ⟨⟨hdir, hchain⟩, hivp⟩ := hmods.resolve_left h7
    exact ⟨hdir, hchain, hivp⟩
  · rcases hciph with h8 | hlt
    · obtain ⟨⟨⟨hciph, -⟩, -⟩, -⟩ := hclear.resolve_left (not_not.mpr h8)
      simp [hciph]
    · exact hlt
  · rintro (⟨h4, hop⟩ | ⟨hop, h4⟩ | ⟨hop, hreserved⟩ | ⟨hop, h4, hbits⟩)
    · obtain ⟨⟨⟨h2, h3⟩, h5⟩, h6⟩ := hblock.resolve_left (not_not.mpr h4)
      rcases hop with h | h | h | h <;> contradiction
    · exact h4 (hksnext.resolve_left (not_not.mpr hop))
    · obtain ⟨hlt, -⟩ := hchain.resolve_left (not_not.mpr hop)
      omega
    · obtain ⟨-, hmods⟩ := hchain.resolve_left (not_not.mpr hop)
      exact hbits (hmods.resolve_left (not_not.mpr h4))

/-- What is said of every row holds of every instruction: its word has its row's pattern, and well-formed
fields. -/
theorem rowPattern (i : Instr) : Laws.RowPattern.Statement i := by
  cases i with
  | pad c => exact Laws.RowPattern.pad c
  | unpad c => exact Laws.RowPattern.unpad c
  | run c d m iv => exact Laws.RowPattern.run c d m iv
  | runArc4 d => exact Laws.RowPattern.runArc4 d
  | _ => exact ⟨rfl, rfl⟩

/-- Settles O4: an instruction's own word is well-formed, and well-formed fields pass all the tests that
stand before a command. -/
theorem decoderAcceptsExactlyWellFormedFields :
    Obligations.DecoderAcceptsExactlyWellFormedFields := by
  refine fun w => ⟨fun ⟨i, hi⟩ => ?_, fun h => ?_⟩
  · obtain ⟨-, hwf⟩ := rowPattern i
    rwa [decode_eq_cmd_iff.mp hi]
  · obtain ⟨hearly, hlt, hlate⟩ := passes_of_wellFormed h
    rcases decodeFields_cases (fieldsOf w) with ⟨hfail, -⟩ | ⟨-, -, hunknown, -⟩ |
      ⟨-, -, -, hfail, -⟩ | ⟨-, -, -, i, hi, -⟩
    · exact absurd hearly hfail
    · omega
    · exact absurd hfail hlate
    · exact ⟨i, hi⟩

/-! ## The rows of the opcode table (30_encoding.md R105) -/

theorem and_rowMask_of_decode {w : Word} {i : Instr} (h : decode w = .cmd i) :
    w &&& rowMask i = rowMatch i := by
  rw [decode_eq_cmd_iff.mp h]
  exact (rowPattern i).1

/-- The bits of the fields that a mask keeps. -/
def CmdFields.masked (f m : CmdFields) : CmdFields :=
  ⟨f.op &&& m.op, f.ciph &&& m.ciph, f.dir &&& m.dir, f.chain &&& m.chain, f.ivp &&& m.ivp,
    f.rsv &&& m.rsv⟩

/-- What a masked word says of the fields, for a mask with fields `m` and a match with fields `v`. -/
theorem masked_fieldsOf {w mask value : Word} {m v : CmdFields} (h : w &&& mask = value)
    (hm : fieldsOf mask = m) (hv : fieldsOf value = v) : (fieldsOf w).masked m = v := by
  subst h hm hv
  simp only [fieldsOf, CmdFields.masked, BitVec.extractLsb'_and]

theorem masked_eq_iff {f m v : CmdFields} : f.masked m = v ↔ f.op &&& m.op = v.op ∧
    f.ciph &&& m.ciph = v.ciph ∧ f.dir &&& m.dir = v.dir ∧ f.chain &&& m.chain = v.chain ∧
    f.ivp &&& m.ivp = v.ivp ∧ f.rsv &&& m.rsv = v.rsv := by
  cases v
  exact CmdFields.mk.injEq .. |>.to_iff

/-- A mask of all bits keeps the field. -/
theorem eq_of_and_allOnes {n : Nat} {x v : BitVec n} (h : x &&& BitVec.allOnes n = v) : x = v := by
  rwa [BitVec.and_allOnes] at h

/-- The ids of the block ciphers are those below 4. -/
theorem exists_blockCipher {x : BitVec 4} (h : x &&& 12 = 0) :
    ∃ b : BlockCipher, x = b.cipher.id := by
  obtain ⟨c, hc⟩ := (ciph_cases x).resolve_right (by revert x; decide)
  rcases cipher_cases c with ⟨b, rfl⟩ | rfl
  · exact ⟨b, hc⟩
  · subst hc
    exact absurd h (by decide)

/-- The chainings are the values of CHAIN below 2. -/
theorem exists_chain {x : BitVec 2} (h : x &&& 2 = 0) : ∃ m : Chain, x = m.bits :=
  (chain_cases x).resolve_right (by revert x; decide)

/-- The rows of PAD and UNPAD: all bits but the two low ones of CIPH are fixed. -/
theorem eq_plainFields_of_row {w value : Word} {op : BitVec 8} (h : w &&& 0xFFFFFCFF = value)
    (hv : fieldsOf value = ⟨op, 0, 0, 0, 0, 0⟩) :
    ∃ b : BlockCipher, fieldsOf w = plainFields op b.cipher := by
  obtain ⟨hop, hciph, hdir, hchain, hivp, hrsv⟩ := masked_eq_iff.mp
    (masked_fieldsOf h (m := ⟨.allOnes 8, 12, .allOnes 1, .allOnes 2, .allOnes 1, .allOnes 16⟩)
      (by decide) hv)
  obtain ⟨b, hb⟩ := exists_blockCipher hciph
  have hplain := eq_plainFields (eq_of_and_allOnes hrsv) hb
    ⟨eq_of_and_allOnes hdir, eq_of_and_allOnes hchain, eq_of_and_allOnes hivp⟩
  rw [show (fieldsOf w).op = op from eq_of_and_allOnes hop] at hplain
  exact ⟨b, hplain⟩

/-- A word that matches a row is the word of an instruction of that row. -/
theorem exists_decode_of_and_rowMask {w : Word} {i : Instr} (h : w &&& rowMask i = rowMatch i) :
    ∃ j, decode w = .cmd j ∧ rowMask j = rowMask i ∧ rowMatch j = rowMatch i := by
  have hwhole (hmask : rowMask i = BitVec.allOnes 32) (henc : rowMatch i = encode i) :
      decode w = .cmd i := by
    rw [hmask, BitVec.and_allOnes] at h
    exact decode_eq_cmd_iff.mpr (h.trans henc)
  cases i with
  | pad c =>
    obtain ⟨b, hb⟩ := eq_plainFields_of_row (value := 0x00000005) (op := 0x05) h (by decide)
    exact ⟨.pad b, decodeFields_eq_cmd_iff.mpr hb, rfl, rfl⟩
  | unpad c =>
    obtain ⟨b, hb⟩ := eq_plainFields_of_row (value := 0x00000006) (op := 0x06) h (by decide)
    exact ⟨.unpad b, decodeFields_eq_cmd_iff.mpr hb, rfl, rfl⟩
  | run c d m iv =>
    obtain ⟨hop, hciph, -, hchain, -, hrsv⟩ := masked_eq_iff.mp
      (masked_fieldsOf (mask := 0xFFFF4CFF) (value := 0x00000007) h
        (m := ⟨.allOnes 8, 12, 0, 2, 0, .allOnes 16⟩) (v := ⟨7, 0, 0, 0, 0, 0⟩)
        (by decide) (by decide))
    obtain ⟨b, hb⟩ := exists_blockCipher hciph
    obtain ⟨m, hm⟩ := exists_chain hchain
    have hrun := eq_fields_run (eq_of_and_allOnes hrsv) (eq_of_and_allOnes hop) hb hm
    exact ⟨_, decodeFields_eq_cmd_iff.mpr hrun, rfl, rfl⟩
  | runArc4 d =>
    obtain ⟨hop, hciph, -, hchain, hivp, hrsv⟩ := masked_eq_iff.mp
      (masked_fieldsOf (mask := 0xFFFFEFFF) (value := 0x00000407) h
        (m := ⟨.allOnes 8, .allOnes 4, 0, .allOnes 2, .allOnes 1, .allOnes 16⟩)
        (v := ⟨7, 4, 0, 0, 0, 0⟩) (by decide) (by decide))
    have hrun := eq_fields_runArc4 (eq_of_and_allOnes hrsv) (eq_of_and_allOnes hop)
      (eq_of_and_allOnes hciph) (eq_of_and_allOnes hchain) (eq_of_and_allOnes hivp)
    exact ⟨_, decodeFields_eq_cmd_iff.mpr hrun, rfl, rfl⟩
  | _ => exact ⟨_, hwhole rfl rfl, rfl, rfl⟩

/-- Settles O3: a word that matches a row is the word of an instruction of that row, so that it decodes to
it and matches no other row. -/
theorem rowPatternsSelectCommands : Obligations.RowPatternsSelectCommands := by
  refine ⟨fun w i => and_rowMask_of_decode, fun w i => exists_decode_of_and_rowMask, fun w h => ?none,
    fun w i j hi hj => ?disjoint⟩
  case none =>
    cases hd : decode w with
    | cmd i => exact absurd (and_rowMask_of_decode hd) (h i)
    | illegal => exact .inl rfl
    | unknown => exact .inr rfl
  case disjoint =>
    obtain ⟨k, hk, -, hki⟩ := exists_decode_of_and_rowMask hi
    obtain ⟨l, hl, -, hlj⟩ := exists_decode_of_and_rowMask hj
    obtain rfl : k = l := Decoded.cmd.inj (hk.symm.trans hl)
    exact hki.symm.trans hlj

/-- Settles O1, by evaluation. -/
theorem wordsOfTheTableDecode : Obligations.WordsOfTheTableDecode := by
  unfold Obligations.WordsOfTheTableDecode
  decide

end Sys2Proof
end

section
/-! SUPPORT. Whose turn a step is, what each turn leaves of a command in flight, and the runs over a whole
agenda (10_state.md R38, 70_reset_and_hazards.md R450); then the statements about the step. -/

namespace Sys2Proof.Machine

/-! ## Whose turn a step is (20_memory.md R81) -/

theorem step_nil {s : State} (h : s.agenda = []) : step s = engineTurn s := by
  simp [step, nextTurn, h]

theorem step_cons {s : State} {x : Turn} {rest : List Turn} (h : s.agenda = x :: rest) :
    step s = takeTurn x (s.setAgenda rest) := by
  simp [step, nextTurn, h]

theorem engineTurn_cmd {s : State} {w : Word} {i : Instr} (hpending : s.pending = some w)
    (hw : decode w = .cmd i) : engineTurn s = exec i s := by
  rw [engineTurn_pending hpending, hw, runDecoded]

/-- Settles O6: the agenda's first turn is taken, and the engine's turn is the meaning of the decoded
word. -/
theorem stepRunsTheDecodedCommand : Obligations.StepRunsTheDecodedCommand := by
  refine ⟨fun s w i => engineTurn_cmd, fun s w i hp hw hnil => ?_, fun s w i rest hp hw hcons => ?_,
    fun s => step_nil, fun s rest => step_cons, fun s a rest => step_cons, fun s rest => step_cons⟩
  · rw [step_nil hnil, engineTurn_cmd hp hw]
  · rw [step_cons hcons]
    exact engineTurn_cmd (s := s.setAgenda rest) hp hw

/-- Settles O7: the engine's turn without a command in flight is no change. -/
theorem idleCoreChangesNothing : Obligations.IdleCoreChangesNothing := by
  refine ⟨fun s => engineTurn_idle, fun s hidle hnil => ?_, fun s rest hidle hcons => ?_⟩
  · rw [step_nil hnil, engineTurn_idle hidle]
  · rw [step_cons hcons]
    exact engineTurn_idle (s := s.setAgenda rest) hidle

/-- An error of decoding has no effect but its completion: its row of 60_exceptions.md R410 is empty. -/
theorem onlyStatus_raise_decoding (e : CmdError) (len : Half) (s : State) :
    s.onlyStatus (s.raise .decoding e len) :=
  ⟨sameOutsideCommand_raise .., by simp [State.sameResults], fun _ => rfl⟩

/-- Settles O8: the engine's turn on such a word raises the error at the place of decoding. -/
theorem decodingErrorsChangeOnlyStatus : Obligations.DecodingErrorsChangeOnlyStatus := by
  intro s w hpending
  refine ⟨fun hw => ⟨_, ?_, endedWith_raise hpending .decoding .illegalCommand 0,
    onlyStatus_raise_decoding ..⟩, fun hw => ⟨_, ?_, endedWith_raise hpending .decoding .unknownCipher 0,
    onlyStatus_raise_decoding ..⟩⟩
  · rw [engineTurn_pending hpending, hw, runDecoded]
  · rw [engineTurn_pending hpending, hw, runDecoded]

/-- Settles O11: after reset memory lists no byte, the store is None and the flags are those of an idle
core. -/
theorem resetMeetsTheInvariant : Obligations.ResetMeetsTheInvariant :=
  (inv_iff _).mpr ⟨⟨by decide, rfl, nofun, Nat.zero_le _, nofun⟩, flagsOk_idle false⟩

/-! ## The agenda after a step -/

theorem engineTurn_agenda {s t : State} (h : engineTurn s = .next t) : t.agenda = s.agenda := by
  cases hp : s.pending with
  | none => rw [Host.Outcome.next.inj ((engineTurn_idle hp).symm.trans h)]
  | some w =>
    rcases engineTurn_endsIn hp h with ⟨pl, e, len, rfl⟩ | ⟨u, ⟨-, -, -, -, hagenda, -⟩, rfl⟩
    · exact State.raise_agenda ..
    · exact hagenda

/-- The engine's turn leaves no command in flight (10_state.md R38). -/
theorem engineTurn_frees {s t : State} (h : engineTurn s = .next t) : t.busy = false := by
  cases hp : s.pending with
  | none =>
    obtain rfl := Host.Outcome.next.inj ((engineTurn_idle hp).symm.trans h)
    simp [State.busy, hp]
  | some w =>
    obtain ⟨hfree, -⟩ := (engineTurn_endsIn hp h).pending_done_ie_ovr
    simp [State.busy, hfree]

theorem serve_agenda (a : HostAccess) (s : State) : (serve a s).agenda = s.agenda := by
  rcases serve_cases a s with ⟨-, h⟩ | ⟨-, h⟩ <;> rw [h]
  · cases a with
    | read width addr => rfl
    | write width addr v =>
      have hw := writeWord_setAgenda (HostAccess.off s.params (.write width addr v)) v s.agenda s
      rw [show s.setAgenda s.agenda = s from rfl] at hw
      rw [State.perform, State.replyWritten_agenda, hw]
      rfl
  · rfl

/-- A step takes the first turn off the agenda. -/
theorem step_agenda {s t : State} (h : step s = .next t) : t.agenda = s.agenda.tail := by
  rcases step_cases h with ⟨hnil, ht⟩ | ⟨rest, hcons, ht⟩ | ⟨rest, hcons, rfl⟩ | ⟨a, rest, hcons, rfl⟩
  · rw [engineTurn_agenda ht, hnil, List.tail_nil]
  · rw [engineTurn_agenda ht, hcons, List.tail_cons]
    rfl
  · rw [hcons, List.tail_cons]
    rfl
  · rw [serve_agenda, hcons, List.tail_cons]
    rfl

/-! ## Runs -/

theorem runsTo_zero (s : State) : runsTo 0 s s := rfl

/-- A run of one step more starts with the step. -/
theorem run_succ {M : Host.Core} {n : Nat} {s u : M.State} (h : M.step s = .next u) :
    M.run (n + 1) s = M.run n u := by
  rw [Host.Core.run, h]

theorem runsTo_succ {n : Nat} {s u t : State} (hstep : step s = .next u) (h : runsTo n u t) :
    runsTo (n + 1) s t := (run_succ (M := core) hstep).trans h

/-- A run of one step more than the agenda has turns ends with the engine's. -/
theorem exists_runsTo_idle (l : List Turn) (s : State) (hl : s.agenda = l) :
    ∃ t, runsTo (l.length + 1) s t ∧ t.agenda = [] ∧ t.busy = false := by
  obtain ⟨u, hu⟩ := step_answers_next s
  have hagenda := step_agenda hu
  induction l generalizing s u with
  | nil =>
    rw [step_nil hl] at hu
    exact ⟨u, runsTo_succ (step_nil hl ▸ hu) (runsTo_zero u), by rw [hagenda, hl, List.tail_nil],
      engineTurn_frees hu⟩
  | cons x l ih =>
    rw [hl, List.tail_cons] at hagenda
    obtain ⟨v, hv⟩ := step_answers_next u
    obtain ⟨t, hrun, hend⟩ := ih u hagenda v hv (step_agenda hv)
    exact ⟨t, runsTo_succ hu hrun, hend⟩

/-! ## A command in flight across the host's accesses -/

/-- CTRL stands at offset 4 alone. -/
theorem eq_of_regionOf_ctrl {p : Params} {off : Nat} (h : regionOf p off = .ctrl) : off = 0x004 := by
  by_contra hne
  rw [regionOf, if_neg hne] at h
  repeat' split at h
  all_goals cases h

/-- While busy a write that does not reset the core keeps the command in flight, and the parameters
(10_state.md R39). -/
theorem writeWord_keeps_pending {s : State} {off : Nat} {v : Word} (hbusy : s.busy = true)
    (hsrst : ¬(off = 0x004 ∧ v.getLsbD 1 = true)) :
    (s.writeWord off v).pending = s.pending ∧ (s.writeWord off v).params = s.params := by
  rcases writeWord_cases off v s with hw | ⟨hr, hw⟩ | ⟨-, hw⟩ | ⟨-, hw⟩ | ⟨hidle, -⟩
  · rw [hw]
    exact ⟨rfl, rfl⟩
  · rw [hw, State.writeCtrl, if_neg fun hbit => hsrst ⟨eq_of_regionOf_ctrl hr, hbit⟩]
    exact ⟨rfl, rfl⟩
  · rw [hw, writeStatus_eq]
    exact ⟨rfl, rfl⟩
  · rw [hw]
    exact ⟨rfl, rfl⟩
  · rw [hbusy] at hidle
    cases hidle

/-- An access that is performed is 32 bits wide and not below BASE (20_memory.md R73). -/
theorem width_base_of_wellFormed {p : Params} {a : HostAccess} (h : a.wellFormed p = true) :
    a.width = 32 ∧ p.base ≤ a.addr := by
  simp only [HostAccess.wellFormed, HostAccess.widthOk, HostAccess.insideOk, Bool.and_eq_true,
    beq_iff_eq, decide_eq_true_eq] at h
  obtain ⟨⟨hwidth, -⟩, hbase, -⟩ := h
  exact ⟨hwidth, hbase⟩

/-- An access that does not reset the core keeps the command in flight, and the parameters. -/
theorem serve_keeps_pending {a : HostAccess} {s : State} (hbusy : s.busy = true)
    (h : (Turn.host a).resets s.params = false) :
    (serve a s).pending = s.pending ∧ (serve a s).params = s.params := by
  rcases serve_cases a s with ⟨hperformed, hs⟩ | ⟨-, hs⟩ <;> rw [hs]
  · cases a with
    | read width addr => exact ⟨rfl, rfl⟩
    | write width addr v =>
      obtain ⟨hwidth, hbase⟩ := width_base_of_wellFormed hperformed
      refine writeWord_keeps_pending hbusy fun ⟨hoff, hbit⟩ => ?_
      have haddr : addr = s.params.base + 0x004 := by
        simp only [HostAccess.off, HostAccess.addr] at hoff hbase
        omega
      simp only [HostAccess.width] at hwidth
      simp only [Turn.resets, hwidth, haddr, hbit, beq_self_eq_true, Bool.and_self] at h
      cases h
  · exact ⟨rfl, rfl⟩

/-- The engine's turn with a command in flight is its completion. -/
theorem engineTurn_completes {s : State} {w : Word} (hpending : s.pending = some w) :
    ∃ t, engineTurn s = .next t ∧ t.pending = none ∧ t.done = true := by
  obtain ⟨t, ht⟩ := engineTurn_answers_next s
  obtain ⟨hfree, hdone, -⟩ := (engineTurn_endsIn hpending ht).pending_done_ie_ovr
  exact ⟨t, ht, hfree, hdone⟩

/-- The command in flight is completed by the first engine turn, or after the last turn of the agenda. -/
theorem exists_completion (l : List Turn) (s : State) (hl : s.agenda = l) {w : Word}
    (hpending : s.pending = some w) (hresets : ∀ x ∈ l, x.resets s.params = false) :
    ∃ n u t, n ≤ l.length ∧ runsTo n s u ∧ u.pending = some w ∧ step u = .next t ∧
      t.pending = none ∧ t.done = true := by
  induction l generalizing s with
  | nil =>
    obtain ⟨t, ht, hend⟩ := engineTurn_completes hpending
    exact ⟨0, s, t, le_rfl, runsTo_zero s, hpending, (step_nil hl).trans ht, hend⟩
  | cons x l ih =>
    obtain ⟨hx, hrest⟩ := List.forall_mem_cons.mp hresets
    cases x with
    | powerOn => cases hx
    | engine =>
      obtain ⟨t, ht, hend⟩ := engineTurn_completes (s := s.setAgenda l) hpending
      exact ⟨0, s, t, Nat.zero_le _, runsTo_zero s, hpending, (step_cons hl).trans ht, hend⟩
    | host a =>
      have hbusy : (s.setAgenda l).busy = true := by simp [State.busy, hpending]
      obtain ⟨hkeep, hparams⟩ := serve_keeps_pending (s := s.setAgenda l) hbusy hx
      obtain ⟨n, u, t, hn, hrun, hend⟩ := ih (serve a (s.setAgenda l)) (serve_agenda ..)
        (hkeep.trans hpending) (hparams ▸ hrest)
      exact ⟨n + 1, u, t, Nat.succ_le_succ hn, runsTo_succ (step_cons hl) hrun, hend⟩

/-- Settles O10, by induction on the agenda: each step takes a turn off it, and the engine's turn after the
last one leaves the core idle. -/
theorem everyAgendaRunsOutWithTheCoreIdle : Obligations.EveryAgendaRunsOutWithTheCoreIdle :=
  fun s => ⟨exists_runsTo_idle s.agenda s rfl,
    fun _ hpending hresets => exists_completion s.agenda s rfl hpending hresets⟩

end Sys2Proof.Machine
end

section
/-! SUPPORT. Reads, and the writes while idle, by region (10_state.md R31 to R52, 20_memory.md R73 to R76);
then the statements about the bus. -/

namespace Sys2Proof.Machine

/-! ## The regions that are not written -/

/-- OBUF stands past everything that the host writes. -/
theorem regionOf_obuf {p : Params} {off : Nat} (hbuf : p.bufBytes ≤ 0x10000) (hlo : 0x20000 ≤ off)
    (hhi : off < 0x20000 + p.bufBytes) : regionOf p off = .outputBytes := by
  have hbytes : ¬hostBytes p off := by unfold hostBytes; omega
  have hobuf : inRange obufBase p.bufBytes off = true := by simp [inRange, obufBase, hlo, hhi]
  rw [← hostRanges_iff] at hbytes
  unfold regionOf
  iterate 9 rw [if_neg (by omega)]
  rw [if_neg hbytes, if_pos hobuf]

theorem regionOf_reserved {p : Params} {off : Nat} (hbuf : p.bufBytes ≤ 0x10000)
    (h : reservedOffset p off) : regionOf p off = .reserved := by
  unfold reservedOffset at h
  have hbytes : ¬hostBytes p off := by unfold hostBytes; omega
  have hobuf : ¬inRange obufBase p.bufBytes off = true := by
    simp only [inRange, Bool.and_eq_true, decide_eq_true_eq]
    unfold obufBase
    omega
  rw [← hostRanges_iff] at hbytes
  unfold regionOf
  iterate 9 rw [if_neg (by omega)]
  rw [if_neg hbytes, if_neg hobuf]

/-! ## Reads -/

theorem readWord_setAgenda (off : Nat) (l : List Turn) (s : State) :
    (s.setAgenda l).readWord off = s.readWord off := rfl

/-- The step whose turn is the host's read at an aligned offset of the window answers with the word that
stands there and takes the turn off the agenda (20_memory.md R73, R75). -/
theorem step_readAt {s : State} {off : Nat} {rest : List Turn}
    (hturn : s.agenda = readAt s.params off :: rest) (h4 : off % 4 = 0) (hlt : off < 0x30000) :
    step s = .next ((s.setAgenda rest).serveRead off) := by
  rw [step_cons hturn, readAt, takeTurn, serve_read (State.setAgenda_params rest s) h4 hlt]

/-- A read changes no field of the core (20_memory.md R75). -/
theorem coreSame_serveRead (s : State) (l : List Turn) (off : Nat) :
    s.coreSame ((s.setAgenda l).serveRead off) := by simp [State.coreSame]

theorem resultWord_idle {s : State} (v : Word) (h : s.busy = false) : s.resultWord v = v :=
  if_neg (Bool.eq_false_iff.mp h)

theorem resultWord_busy {s : State} (v : Word) (h : s.busy = true) :
    s.resultWord v = Config.freeRead s.draws := if_pos h

/-- The four bytes of a byte region's word, the lowest first (20_memory.md R74). -/
theorem busWord_bytes (s : State) (off : Nat) :
    (s.busWord off).extractLsb' 0 8 = s.mem.read off ∧
      (s.busWord off).extractLsb' 8 8 = s.mem.read (off + 1) ∧
      (s.busWord off).extractLsb' 16 8 = s.mem.read (off + 2) ∧
      (s.busWord off).extractLsb' 24 8 = s.mem.read (off + 3) := by
  have h := le32Bytes_le32 (s.mem.readBytes off 4) 0
  simp only [le32Bytes, Nat.zero_add, List.cons.injEq, and_true,
    Memory.byteAt_readBytes _ _ _ _ (show 0 < 4 by decide),
    Memory.byteAt_readBytes _ _ _ _ (show 1 < 4 by decide),
    Memory.byteAt_readBytes _ _ _ _ (show 2 < 4 by decide),
    Memory.byteAt_readBytes _ _ _ _ (show 3 < 4 by decide)] at h
  exact h

theorem readWord_hostBytes {s : State} {off : Nat} (h : hostBytes s.params off) :
    s.readWord off = s.busWord off := by
  rw [State.readWord, regionOf_of_hostBytes h]

theorem readWord_obuf {s : State} {off : Nat} (hbuf : s.params.bufBytes ≤ 0x10000)
    (hlo : 0x20000 ≤ off) (hhi : off < 0x20000 + s.params.bufBytes) :
    s.readWord off = s.resultWord (s.busWord off) := by
  rw [State.readWord, regionOf_obuf hbuf hlo hhi]

/-- The fields of CTRL (10_state.md R33). -/
theorem ctrlWord_fields (s : State) :
    s.ctrlWord.getLsbD 0 = s.ie ∧ s.ctrlWord.extractLsb' 1 31 = 0 := by
  cases h : s.ie <;> simp [State.ctrlWord, bit, h]

/-- The fields of STATUS (10_state.md R34). -/
theorem statusWord_fields (s : State) :
    s.statusWord.getLsbD 0 = s.busy ∧ s.statusWord.getLsbD 1 = s.done ∧
      s.statusWord.getLsbD 2 = s.ovr ∧ s.statusWord.getLsbD 3 = false ∧
      s.statusWord.extractLsb' 4 4 = s.err ∧ s.statusWord.extractLsb' 8 3 = s.schedTag ∧
      s.statusWord.getLsbD 11 = s.keyed ∧ s.statusWord.extractLsb' 12 20 = 0 := by
  refine ⟨?busy, ?done, ?ovr, ?zero, ?err, ?tag, ?keyed, ?reserved⟩
  case busy | done | ovr | zero | keyed =>
    simp only [State.statusWord, BitVec.getLsbD_append]
    simp [bit]
  case err | tag | reserved =>
    refine BitVec.eq_of_getLsbD_eq fun n hn => ?_
    simp only [BitVec.getLsbD_extractLsb', State.statusWord, BitVec.getLsbD_append]
    interval_cases n <;> simp

/-- Settles O15: the read answers with the region's word, and changes the reply and the count of draws
only. -/
theorem readsReturnTheRegistersWithoutSideEffect :
    Obligations.ReadsReturnTheRegistersWithoutSideEffect := by
  intro s off rest hturn hparams h4 hlt
  obtain ⟨-, -, hmax⟩ := (wellFormed_iff _).mp hparams
  have hbuf : s.params.bufBytes ≤ 0x10000 := by omega
  refine ⟨_, s.readWord off, step_readAt hturn h4 hlt, coreSame_serveRead s rest off, rfl, rfl,
    ?id, ?ctrl, ?status, ?cmd, ?keylen, ?msglen, ?outlen, ?errinfo, ?ksbyte, ?bytes, ?reserved⟩
  case id => rintro rfl; rfl
  case ctrl => rintro rfl; exact ctrlWord_fields s
  case status => rintro rfl; exact statusWord_fields s
  case cmd => rintro rfl; rfl
  case keylen =>
    rintro rfl
    exact BitVec.toNat_setWidth_of_le (by decide)
  case msglen =>
    rintro rfl
    exact BitVec.toNat_setWidth_of_le (by decide)
  case outlen =>
    rintro rfl hidle
    exact (congrArg BitVec.toNat (resultWord_idle _ hidle)).trans
      (BitVec.toNat_setWidth_of_le (by decide))
  case errinfo =>
    rintro rfl hidle
    exact resultWord_idle _ hidle
  case ksbyte =>
    rintro rfl hidle
    exact (congrArg BitVec.toNat (resultWord_idle _ hidle)).trans
      (BitVec.toNat_setWidth_of_le (by decide))
  case bytes =>
    rintro (hbytes | ⟨hidle, hlo, hhi⟩)
    · rw [readWord_hostBytes hbytes]
      exact busWord_bytes s off
    · rw [readWord_obuf hbuf hlo hhi, resultWord_idle _ hidle]
      exact busWord_bytes s off
  case reserved =>
    intro h
    rw [State.readWord, regionOf_reserved hbuf h]

/-- Settles O16: while busy the word of a result region is the next free value, and the count of draws goes
on by one. -/
theorem busyReadsOfResultsAreDraws : Obligations.BusyReadsOfResultsAreDraws := by
  intro s off rest hturn hparams hbusy h4 hoff
  obtain ⟨-, -, hmax⟩ := (wellFormed_iff _).mp hparams
  have hresult : (regionOf s.params off).isResult = true ∧
      s.readWord off = Config.freeRead s.draws := by
    rcases hoff with rfl | rfl | rfl | ⟨hlo, hhi⟩
    · exact ⟨rfl, resultWord_busy _ hbusy⟩
    · exact ⟨rfl, resultWord_busy _ hbusy⟩
    · exact ⟨rfl, resultWord_busy _ hbusy⟩
    · have hbuf : s.params.bufBytes ≤ 0x10000 := by omega
      rw [regionOf_obuf hbuf hlo hhi, readWord_obuf hbuf hlo hhi]
      exact ⟨rfl, resultWord_busy _ hbusy⟩
  obtain ⟨hregion, hword⟩ := hresult
  refine ⟨_, step_readAt hturn h4 (by omega), coreSame_serveRead s rest off, rfl, ?draws, ?reply⟩
  case draws => exact if_pos (Bool.and_eq_true_iff.mpr ⟨hbusy, hregion⟩)
  case reply => rw [State.serveRead_reply, readWord_setAgenda, hword]

/-! ## Writes while idle -/

theorem writeWord_bytes_idle {s : State} {off : Nat} (v : Word) (hidle : s.busy = false)
    (h : hostBytes s.params off) :
    s.writeWord off v = s.setMem (s.mem.writeBytes off (le32Bytes v)) := by
  rw [State.writeWord, regionOf_of_hostBytes h]
  exact ifIdle_idle _ hidle

/-- Settles O17: the write stores the word's bytes where the read finds them. -/
theorem bufferWriteThenReadGivesTheWord : Obligations.BufferWriteThenReadGivesTheWord := by
  intro s off v rest hturn hidle hwf h4 hlt hbytes
  have hstep := step_writeAt (v := v) hturn h4 hlt
  rw [writeWord_bytes_idle v hidle hbytes] at hstep
  have hread {k : Nat} (hk : k < 4) :
      (s.mem.writeBytes off (le32Bytes v)).read (off + k) = byteAt (le32Bytes v) k :=
    Memory.read_writeBytes_inside hwf off _ hk
  refine ⟨_, hstep, rfl, hread (k := 0) (by decide), hread (k := 1) (by decide),
    hread (k := 2) (by decide), hread (k := 3) (by decide), ?word, fun a ha => ?frame, ?core⟩
  case word =>
    rw [readWord_hostBytes (by exact hbytes), State.busWord]
    exact (congrArg (le32 · 0) (Memory.readBytes_writeBytes hwf off (le32Bytes v))).trans
      (le32_le32Bytes v)
  case frame => exact Memory.read_writeBytes_outside _ _ _ ha
  case core => exact coreSame_refl _

/-- Settles O18: the two writes truncate the word to the register's width. -/
theorem lengthRegisterWrites : Obligations.LengthRegisterWrites := by
  intro s v rest hidle
  refine ⟨fun hturn => ?keylen, fun hturn => ?msglen⟩
  case keylen =>
    have hstep := step_writeAt hturn (by decide) (by decide)
    rw [show s.writeWord 0x010 v = s.setKeylen (v.setWidth 9) from ifIdle_idle _ hidle] at hstep
    exact ⟨_, hstep, rfl, BitVec.toNat_setWidth .., coreSame_refl _⟩
  case msglen =>
    have hstep := step_writeAt hturn (by decide) (by decide)
    rw [show s.writeWord 0x014 v = s.setMsglen (v.setWidth 16) from ifIdle_idle _ hidle] at hstep
    exact ⟨_, hstep, rfl, BitVec.toNat_setWidth .., coreSame_refl _⟩

/-- Settles O19: such an offset is none of those that a write of has an effect. -/
theorem readOnlyAndReservedWritesAreIgnored : Obligations.ReadOnlyAndReservedWritesAreIgnored := by
  intro s off v rest hturn hparams h4 hlt hoff
  obtain ⟨-, -, hmax⟩ := (wellFormed_iff _).mp hparams
  have hignored : ¬(off = 0x00C ∨ off = 0x010 ∨ off = 0x014 ∨ hostBytes s.params off ∨ off = 0x004 ∨
      off = 0x008) := by
    unfold reservedOffset at hoff
    unfold hostBytes
    omega
  have hstep := step_writeAt (v := v) hturn h4 hlt
  rw [writeWord_ignored v hignored] at hstep
  exact ⟨_, hstep, rfl, coreSame_refl s⟩

/-- Settles O20: both writes are performed, busy or idle, on the flags they name. -/
theorem controlAndStatusWrites : Obligations.ControlAndStatusWrites := by
  refine fun s v rest => ⟨fun hturn hsrst => ?ctrl, fun hturn => ?status⟩
  case ctrl =>
    have hstep := step_writeAt hturn (by decide) (by decide)
    rw [writeWord_ctrl, State.writeCtrl, if_neg (Bool.eq_false_iff.mp hsrst)] at hstep
    exact ⟨_, hstep, rfl, rfl, coreSame_refl _⟩
  case status =>
    have hstep := step_writeAt hturn (by decide) (by decide)
    rw [writeWord_status, writeStatus_eq] at hstep
    refine ⟨_, hstep, rfl, fun hack => ?_, coreSame_refl _⟩
    simp [State.irq, hack]

/-! ## Reset and bad accesses -/

/-- Settles O22: the turn is the core's reset, and the state after power-on has the reset values. -/
theorem powerOnResetGivesResetValues : Obligations.PowerOnResetGivesResetValues := by
  refine ⟨fun s rest hturn => ⟨_, step_cons hturn, coreReset_resetCore (s.setAgenda rest), rfl⟩, ?_,
    by decide, by decide⟩
  exact ⟨rfl, rfl, rfl, rfl, rfl, rfl, rfl, rfl, rfl, rfl, rfl, rfl, rfl, rfl, fun _ _ => rfl⟩

/-- What the core performs (20_memory.md R73): the access is 32 bits wide, aligned and inside the
window. -/
theorem of_wellFormed {p : Params} {a : HostAccess} (h : a.wellFormed p = true) :
    a.width = 32 ∧ (a.addr - p.base) % 4 = 0 ∧ p.base ≤ a.addr ∧ a.addr - p.base < 0x30000 := by
  obtain ⟨hwidth, hbase⟩ := width_base_of_wellFormed h
  obtain ⟨-, hinside⟩ := Bool.and_eq_true_iff.mp h
  obtain ⟨-, hlt⟩ := Bool.and_eq_true_iff.mp hinside
  exact ⟨hwidth, off_mod_four_of_wellFormed h, hbase, of_decide_eq_true hlt⟩

/-- Settles O23: such an access is not well-formed, and an access that is not gets the bus error response. -/
theorem badAccessesAreNotPerformed : Obligations.BadAccessesAreNotPerformed := by
  intro s a rest hturn hbad
  have hill : ¬a.wellFormed s.params = true := fun h => by
    obtain ⟨hwidth, haligned, hbase, hlt⟩ := of_wellFormed h
    omega
  have hserve : serve a (s.setAgenda rest) = (s.setAgenda rest).replyBusError := if_neg hill
  refine ⟨_, (step_cons hturn).trans (congrArg Host.Outcome.next hserve), ?_, rfl, rfl, rfl⟩
  simp [State.coreSame]

/-! ## Packing (00_scope.md R10) -/

/-- The number that bytes appended to a word write. -/
theorem toNat_append_byte {n : Nat} (x : BitVec n) (b : Byte) :
    (x ++ b).toNat = x.toNat * 2 ^ 8 + b.toNat := by
  rw [BitVec.toNat_append, ← Nat.shiftLeft_add_eq_or_of_lt b.isLt, Nat.shiftLeft_eq]

/-- Settles O24: the sets by their tests, and the packings by the numbers that appended bytes write. -/
theorem blockSizesAndKeyLengthSets : Obligations.BlockSizesAndKeyLengthSets := by
  refine ⟨rfl, rfl, rfl, rfl, fun n => ?sets, fun b i => ?packing,
    fun x => ⟨rfl, be16_be16Bytes x⟩, fun x => ⟨rfl, be32_be32Bytes x, rfl, le32_le32Bytes x⟩⟩
  case sets => simp [keyLengthOk, or_assoc]
  case packing =>
    intro v
    have hv (j : Nat) : (byteAt b (i + j)).toNat = v j := rfl
    simp only [be16, be32, le32, toNat_append_byte, hv, show (byteAt b i).toNat = v 0 from hv 0]
    exact ⟨trivial, by ring, by ring⟩

end Sys2Proof.Machine
end

section
/-! SUPPORT. The field of AES and its S-boxes (43_aes.md R180 to R182); then their statement. -/

namespace Sys2Proof.Machine

/-! ## Additive functions are known by the bits -/

/-- Two additive functions of a byte agree if they agree on the eight bits. -/
theorem eq_of_bits {f g : Byte → Byte} (hf : ∀ x y, f (x ^^^ y) = f x ^^^ f y)
    (hg : ∀ x y, g (x ^^^ y) = g x ^^^ g y)
    (h : ∀ k < 8, f (BitVec.twoPow 8 k) = g (BitVec.twoPow 8 k)) (x : Byte) : f x = g x := by
  have hzero {f : Byte → Byte} (hf : ∀ x y, f (x ^^^ y) = f x ^^^ f y) : f 0 = 0 := by
    simpa using hf 0 0
  have hsum (l : List Byte) (hl : ∀ b ∈ l, f b = g b) :
      f (l.foldr (· ^^^ ·) 0) = g (l.foldr (· ^^^ ·) 0) := by
    induction l with
    | nil => exact (hzero hf).trans (hzero hg).symm
    | cons b l ih =>
      obtain ⟨hb, hl⟩ := List.forall_mem_cons.mp hl
      rw [List.foldr_cons, hf, hg, hb, ih hl]
  rw [byte_eq_sum_bits x]
  refine hsum _ fun b hb => ?_
  obtain ⟨k, hk, rfl⟩ := List.mem_map.mp hb
  split_ifs
  · exact h k (List.mem_range.mp hk)
  · exact (hzero hf).trans (hzero hg).symm

/-! ## Multiplication (43_aes.md R180) -/

theorem xtime_xor (a b : Byte) : xtime (a ^^^ b) = xtime a ^^^ xtime b := by
  have hbit : (if (a ^^^ b).getLsbD 7 then (0x1B : Byte) else 0x00) =
      (if a.getLsbD 7 then 0x1B else 0x00) ^^^ (if b.getLsbD 7 then 0x1B else 0x00) := by
    rw [BitVec.getLsbD_xor]
    cases a.getLsbD 7 <;> cases b.getLsbD 7 <;> rfl
  rw [xtime, xtime, xtime, hbit, BitVec.shiftLeft_xor_distrib]
  ac_rfl

/-- Multiplication is additive in the first factor too. -/
theorem gmulBits_xor_left (n : Nat) (a b c : Byte) :
    gmulBits n (a ^^^ b) c = gmulBits n a c ^^^ gmulBits n b c := by
  induction n generalizing a b c with
  | zero => exact (BitVec.xor_self (x := (0 : Byte))).symm
  | succ n ih =>
    have hbit : (if c.getLsbD 0 then a ^^^ b else 0) =
        (if c.getLsbD 0 then a else 0) ^^^ (if c.getLsbD 0 then b else 0) := by
      cases c.getLsbD 0 <;> simp
    rw [gmulBits, gmulBits, gmulBits, hbit, xtime_xor, ih]
    ac_rfl

theorem gmul_xor_left (a b c : Byte) : gmul (a ^^^ b) c = gmul a c ^^^ gmul b c :=
  gmulBits_xor_left 8 a b c

theorem gmul_one (a : Byte) : gmul a 1 = a := by
  refine eq_of_bits (f := (gmul · 1)) (g := id) (gmul_xor_left · · 1) (fun _ _ => rfl) ?_ a
  decide +kernel

/-- Both sides are additive in both factors, so the products of the bits decide. -/
theorem gmul_xtime (a b : Byte) : gmul a (xtime b) = xtime (gmul a b) := by
  refine eq_of_bits (f := fun b => gmul a (xtime b)) (g := fun b => xtime (gmul a b))
    (fun x y => by rw [xtime_xor, gmul_xor]) (fun x y => by rw [gmul_xor, xtime_xor])
    (fun k hk => ?_) b
  refine eq_of_bits (f := (gmul · (xtime (.twoPow 8 k)))) (g := fun a => xtime (gmul a (.twoPow 8 k)))
    (gmul_xor_left · · _) (fun x y => by rw [gmul_xor_left, xtime_xor]) ?_ a
  revert k
  decide +kernel

theorem xtime_toNat (b : Byte) :
    (xtime b).toNat = if b.toNat < 128 then 2 * b.toNat else (2 * b.toNat) ^^^ 0x11B := by
  revert b
  decide +kernel

/-! ## The inverse and the S-boxes (43_aes.md R181, R182) -/

/-- The 256 inverses: each times its byte gives 1, and the affine map of each is the table's entry. -/
theorem gmul_gfInv_and_sboxFormula (x : Byte) :
    (x ≠ 0 → gmul x (gfInv x) = 1) ∧ sboxFormula x = sbox x := by
  revert x
  decide +kernel

/-- A left inverse on a finite type is a right inverse. -/
theorem sbox_invSbox (x : Byte) : sbox (invSbox x) = x := by
  have hinv : Function.LeftInverse invSbox sbox := invSbox_sbox
  obtain ⟨y, rfl⟩ := Finite.surjective_of_injective hinv.injective x
  rw [invSbox_sbox]

theorem sbox_ne (x : Byte) : sbox x ≠ x ∧ sbox x ≠ x ^^^ 0xFF := by
  revert x
  decide +kernel

/-- Settles O51: the arithmetic by additivity, the tables by their 256 entries. -/
theorem aesSboxTables : Obligations.AesSboxTables := by
  refine ⟨xtime_toNat, fun a b c => ⟨gmul_one a, gmul_xtime a b, gmul_xor a b c⟩, fun x => ?_⟩
  obtain ⟨hinv, hformula⟩ := gmul_gfInv_and_sboxFormula x
  obtain ⟨hfixed, hopposite⟩ := sbox_ne x
  exact ⟨hinv, by decide +kernel, hformula.symm, hformula.symm, invSbox_sbox x, sbox_invSbox x, hfixed,
    hopposite⟩

end Sys2Proof.Machine
end

section
/-! SUPPORT. The rounds of AES, Blowfish and IDEA in the terms of the statements, byte by byte and word by
word (43_aes.md R193, 45_blowfish.md R254, 46_idea.md R286); then the statements about the ciphers. -/

namespace Sys2Proof.Machine

/-! ## AES, byte by byte (43_aes.md R183) -/

/-- Byte n of a round key: row n mod 4 of the word of column n / 4. -/
def aesKeyByte (w : List Quad) (rnd n : Nat) : Byte :=
  (quadBytes (w.getD (4 * rnd + n / 4) Quad.zero)).getD (n % 4) 0

theorem byteAt_aesLoad {b : Bytes} {n : Nat} (hn : n < 16) :
    byteAt (aesStore (aesLoad b)) n = byteAt b n := by
  interval_cases n <;> rfl

theorem byteAt_addRoundKey (w : List Quad) (rnd : Nat) (s : AesBlock) {n : Nat} (hn : n < 16) :
    byteAt (aesStore (addRoundKey w rnd s)) n = byteAt (aesStore s) n ^^^ aesKeyByte w rnd n := by
  interval_cases n <;> rfl

/-- SubBytes and ShiftRows: byte n is the S-box of the byte in its row, row places further. -/
theorem byteAt_shiftRows_subBytes (s : AesBlock) {n : Nat} (hn : n < 16) :
    byteAt (aesStore (shiftRows (subBytes s))) n =
      sbox (byteAt (aesStore s) (n % 4 + 4 * ((n / 4 + n % 4) % 4))) := by
  interval_cases n <;> rfl

/-- Column c of the state. -/
def aesColumn (s : AesBlock) : Nat → Quad
  | 0 => s.c0
  | 1 => s.c1
  | 2 => s.c2
  | _ + 3 => s.c3

/-- Byte n is byte n mod 4 of column n / 4. -/
theorem byteAt_aesStore (s : AesBlock) {n : Nat} (hn : n < 16) :
    byteAt (aesStore s) n = byteAt (quadBytes (aesColumn s (n / 4))) (n % 4) := by
  interval_cases n <;> rfl

theorem aesColumn_mixColumns (s : AesBlock) (c : Nat) :
    aesColumn (mixColumns s) c = mixColumn (aesColumn s c) := by
  rcases c with _ | _ | _ | c <;> rfl

/-- The rows of the matrix are those of its first, turned. -/
theorem byteAt_mixColumn (q : Quad) {r : Nat} (hr : r < 4) : byteAt (quadBytes (mixColumn q)) r =
    gmul 0x02 (byteAt (quadBytes q) ((r + 0) % 4)) ^^^
      gmul 0x03 (byteAt (quadBytes q) ((r + 1) % 4)) ^^^ byteAt (quadBytes q) ((r + 2) % 4) ^^^
      byteAt (quadBytes q) ((r + 3) % 4) := by
  obtain ⟨q0, q1, q2, q3⟩ := q
  interval_cases r
  · rfl
  all_goals
    simp only [mixColumn, quadBytes, byteAt, Nat.reduceAdd, Nat.reduceMod, List.getD_cons_zero,
      List.getD_cons_succ]
    ac_rfl

/-- MixColumns: byte n from the bytes of its column, from its own row on. -/
theorem byteAt_mixColumns (s : AesBlock) {n : Nat} (hn : n < 16) :
    byteAt (aesStore (mixColumns s)) n =
      gmul 0x02 (byteAt (aesStore s) ((n + 0) % 4 + 4 * (n / 4))) ^^^
        gmul 0x03 (byteAt (aesStore s) ((n + 1) % 4 + 4 * (n / 4))) ^^^
        byteAt (aesStore s) ((n + 2) % 4 + 4 * (n / 4)) ^^^
        byteAt (aesStore s) ((n + 3) % 4 + 4 * (n / 4)) := by
  have hrow (k : Nat) : byteAt (aesStore s) ((n + k) % 4 + 4 * (n / 4)) =
      byteAt (quadBytes (aesColumn s (n / 4))) ((n % 4 + k) % 4) := by
    have hindex : ((n + k) % 4 + 4 * (n / 4)) / 4 = n / 4 ∧
        ((n + k) % 4 + 4 * (n / 4)) % 4 = (n % 4 + k) % 4 := by omega
    rw [byteAt_aesStore s (by omega), hindex.1, hindex.2]
  rw [byteAt_aesStore _ hn, aesColumn_mixColumns, byteAt_mixColumn _ (by omega), hrow, hrow, hrow, hrow]

/-- The state after r rounds of the encryption of a block (43_aes.md R193). -/
def aesAfter (w : List Quad) (b : Bytes) (r : Nat) : AesBlock :=
  aesRounds w r 1 (addRoundKey w 0 (aesLoad b))

theorem aesAfter_succ (w : List Quad) (b : Bytes) (r : Nat) : aesAfter w b (r + 1) =
    addRoundKey w (r + 1) (mixColumns (shiftRows (subBytes (aesAfter w b r)))) := by
  rw [aesAfter, aesRounds_succ, Nat.add_comm 1]
  rfl

theorem aesEncrypt_eq_aesAfter (nr : Nat) (w : List Quad) (b : Bytes) : aesEncrypt nr w b =
    aesStore (addRoundKey w nr (shiftRows (subBytes (aesAfter w b (nr - 1))))) := rfl

theorem aesRoundsRule_aesEncrypt (nr : Nat) (w : List Quad) (b : Bytes) :
    aesRoundsRule nr w b (aesEncrypt nr w b) := by
  refine ⟨fun r n => byteAt (aesStore (aesAfter w b r)) n, fun n hn => ?first, fun r n _ hn => ?round,
    length_aesEncrypt .., fun n hn => ?last⟩
  case first =>
    rw [← byteAt_aesLoad hn]
    exact byteAt_addRoundKey w 0 (aesLoad b) hn
  case round =>
    have hbyte (k : Nat) : byteAt (aesStore (shiftRows (subBytes (aesAfter w b r))))
        ((n + k) % 4 + 4 * (n / 4)) = sbox (byteAt (aesStore (aesAfter w b r))
          ((n + k) % 4 + 4 * ((n / 4 + (n + k) % 4) % 4))) := by
      have hrow : ((n + k) % 4 + 4 * (n / 4)) % 4 = (n + k) % 4 := by omega
      have hcolumn : ((n + k) % 4 + 4 * (n / 4)) / 4 = n / 4 := by omega
      rw [byteAt_shiftRows_subBytes _ (by omega), hrow, hcolumn]
    dsimp only
    rw [aesAfter_succ, byteAt_addRoundKey _ _ _ hn, byteAt_mixColumns _ hn, hbyte, hbyte, hbyte, hbyte,
      aesKeyByte]
  case last =>
    rw [aesEncrypt_eq_aesAfter, byteAt_addRoundKey _ _ _ hn, byteAt_shiftRows_subBytes _ hn, aesKeyByte]

/-- Settles O52. -/
theorem invMixColumnsInvertsMixColumns : Obligations.InvMixColumnsInvertsMixColumns :=
  invMixColumns_mixColumns

/-- Settles O53: each inverse round undoes its round, and the rounds are taken one by one. -/
theorem aesDecryptInvertsEncrypt : Obligations.AesDecryptInvertsEncrypt :=
  ⟨fun nr w _ h => aesDecrypt_aesEncrypt nr w h, fun nr w b _ _ => aesRoundsRule_aesEncrypt nr w b⟩

/-! ## Blowfish (45_blowfish.md R253, R254) -/

/-- The four bytes of a word as quotients. -/
theorem bfF_eq (t : BfTables) (x : Word) : bfF t x =
    ((t.s0.getD (x.toNat / 2 ^ 24) 0 + t.s1.getD (x.toNat / 2 ^ 16 % 256) 0) ^^^
      t.s2.getD (x.toNat / 2 ^ 8 % 256) 0) + t.s3.getD (x.toNat % 256) 0 := by
  have hbyte (k : Nat) : (x.extractLsb' k 8).toNat = x.toNat / 2 ^ k % 256 := by
    rw [BitVec.extractLsb'_toNat, Nat.shiftRight_eq_div_pow]
  have hhigh : x.toNat / 2 ^ 24 % 256 = x.toNat / 2 ^ 24 := by omega
  rw [bfF, hbyte, hbyte, hbyte, hbyte, hhigh, pow_zero, Nat.div_one]

/-- The halves after n rounds of the encryption of a block (45_blowfish.md R254). -/
def bfAfter (t : BfTables) (b : Bytes) (n : Nat) : Halves := bfRounds t n 0 (bfLoad b)

theorem bfAfter_succ (t : BfTables) (b : Bytes) (n : Nat) :
    bfAfter t b (n + 1) = bfRound t n (bfAfter t b n) := by
  rw [bfAfter, bfRounds_succ, Nat.zero_add, bfAfter]

theorem bfRoundsRule_bfEncrypt (t : BfTables) (b : Bytes) : bfRoundsRule t b (bfEncrypt t b) := by
  refine ⟨fun n => (bfAfter t b n).1, fun n => (bfAfter t b n).2, rfl, rfl, fun n _ => ?_, rfl⟩
  simp only [bfAfter_succ, bfRound, bfF_eq, and_self]

/-- Settles O55: each round under the P-array read backwards undoes its round, and the rounds are taken one
by one. -/
theorem blowfishDecryptInvertsEncrypt : Obligations.BlowfishDecryptInvertsEncrypt :=
  ⟨fun t _ h => bfDecrypt_bfEncrypt t h, fun t b _ => bfRoundsRule_bfEncrypt t b⟩

/-! ## IDEA (46_idea.md R281, R286, R287) -/

/-- Settles O56: the product of two numbers from 1 to 65536 is not divisible by the prime 65537, and `inv`
is a power by Fermat's theorem. -/
theorem ideaInverseIsInverse : Obligations.IdeaInverseIsInverse :=
  ⟨ideaNum_ideaMul, ideaMul_ideaInv⟩

/-- The words after n rounds of the data path (46_idea.md R286). -/
def ideaAfter (t : List Half) (b : Bytes) (n : Nat) : IdeaBlock := ideaRounds t n 1 (ideaLoad b)

theorem ideaAfter_succ (t : List Half) (b : Bytes) (n : Nat) :
    ideaAfter t b (n + 1) = ideaRound t (n + 1) (ideaAfter t b n) := by
  rw [ideaAfter, ideaRounds_succ, Nat.add_comm 1, ideaAfter]

theorem ideaRoundsRule_ideaCrypt (t : List Half) (b : Bytes) :
    ideaRoundsRule t b (ideaCrypt t b) := by
  refine ⟨ideaAfter t b, rfl, fun n _ => ?_, rfl⟩
  rw [ideaAfter_succ]
  rfl

/-- Settles O57: the derived subkeys take the rounds off in the reverse order, and the rounds are taken one
by one. -/
theorem ideaDecryptInvertsEncrypt : Obligations.IdeaDecryptInvertsEncrypt :=
  ⟨fun z _ h => ideaCrypt_ideaDecKeys z h, fun z b _ => ideaRoundsRule_ideaCrypt z b⟩

end Sys2Proof.Machine
end

section
/-! SUPPORT. What each ending of a command leaves of memory and of the registers: a block in DATA, a string in
OBUF, an error (10_state.md R48, R52; 60_exceptions.md R410); then the statements about EXPAND's schedules,
ENCB and DECB, PAD and UNPAD, and those over all commands. -/

namespace Sys2Proof.Machine

/-- Settles O27. -/
theorem expandedSchedulesHaveTheirShape : Obligations.ExpandedSchedulesHaveTheirShape :=
  fun _ _ => expandKey_shapeOk

/-! ## ENCB and DECB (10_state.md R48) -/

/-- A block command with the result `v` in DATA: nothing but the bytes of `v` and STATUS changes. -/
def blockCommandGives (i : Instr) (s : State) (v : Bytes) (n : Nat) : Prop :=
  ∃ t, exec i s = .next t ∧ t.endedWell ∧ t.mem.readBytes dataBase n = v ∧
    s.memSameOutside dataBase n t ∧ s.sameOutsideCommand t ∧ s.sameResults t

theorem blockCommandGives_of_blockResult {i : Instr} {s : State} {v : Bytes} {n : Nat}
    (hwf : s.mem.wf = true) (hn : v.length = n) (h : exec i s = blockResult v s) :
    blockCommandGives i s v n := by
  subst hn
  exact ⟨_, h, endedWell_succeed _, Memory.readBytes_writeBytes hwf dataBase v,
    fun _ ha => Memory.read_writeBytes_outside _ _ _ ha, by simp [State.sameOutsideCommand],
    by simp [State.sameResults]⟩

/-- Settles O30. -/
theorem aesBlockCommands : Obligations.AesBlockCommands := fun s _ _ h hwf =>
  ⟨blockCommandGives_of_blockResult hwf rfl (by simp [exec, execEncbAes, h, State.dataBlock]),
    blockCommandGives_of_blockResult hwf rfl (by simp [exec, execDecbAes, h, State.dataBlock])⟩

/-- Settles O31. -/
theorem rc6BlockCommands : Obligations.Rc6BlockCommands := fun s _ h hwf =>
  ⟨blockCommandGives_of_blockResult hwf rfl (by simp [exec, execEncbRc6, h, State.dataBlock]),
    blockCommandGives_of_blockResult hwf rfl (by simp [exec, execDecbRc6, h, State.dataBlock])⟩

/-- Settles O32. -/
theorem blowfishBlockCommands : Obligations.BlowfishBlockCommands := fun s _ h hwf =>
  ⟨blockCommandGives_of_blockResult hwf rfl (by simp [exec, execEncbBf, h, State.dataBlock]),
    blockCommandGives_of_blockResult hwf rfl (by simp [exec, execDecbBf, h, State.dataBlock])⟩

/-- Settles O33. -/
theorem ideaBlockCommands : Obligations.IdeaBlockCommands := fun s _ _ h hwf =>
  ⟨blockCommandGives_of_blockResult hwf rfl (by simp [exec, execEncbIdea, h, State.dataBlock]),
    blockCommandGives_of_blockResult hwf rfl (by simp [exec, execDecbIdea, h, State.dataBlock])⟩

/-! ## Strings from the bytes at their indices -/

/-- A string read from memory, byte by byte. -/
theorem readBytes_eq_map_range (m : Memory) (a n : Nat) :
    m.readBytes a n = (List.range n).map fun k => m.read (a + k) := by
  rw [Memory.readBytes, List.range'_eq_map_range, List.map_map]
  rfl

theorem byteAt_map_range {n k : Nat} (f : Nat → Byte) (hk : k < n) :
    byteAt ((List.range n).map f) k = f k := by
  simp [byteAt, hk]

/-! ## A string in OBUF (10_state.md R43, R52) -/

/-- The command of `s` succeeded with the output `v`: OBUF and OUTLEN take it, and no other byte or register
but the schedule store may differ. -/
def State.givesOutput (s t : State) (v : Bytes) : Prop :=
  t.endedWell ∧ t.outlen.toNat = v.length ∧
    (∀ k, k < v.length → t.mem.read (obufBase + k) = byteAt v k) ∧
    s.memSameOutside obufBase v.length t ∧ s.sameOutsideCommand t ∧ t.keylen = s.keylen ∧
    t.ksbyte = s.ksbyte

theorem givesOutput_writeOutput {s : State} {v : Bytes} (hwf : s.mem.wf = true)
    (hv : v.length < 65536) : s.givesOutput (s.writeOutput v).succeed v := by
  refine ⟨endedWell_succeed _, ?outlen, fun k hk => Memory.read_writeBytes_inside hwf _ _ hk,
    fun _ ha => Memory.read_writeBytes_outside _ _ _ ha, by simp [State.sameOutsideCommand], rfl, rfl⟩
  case outlen =>
    rw [State.succeed_outlen, State.writeOutput_outlen, BitVec.toNat_ofNat, Nat.mod_eq_of_lt hv]

theorem givesOutput_runResult {s : State} {v : Bytes} (hwf : s.mem.wf = true)
    (hv : v.length < 65536) : s.givesOutput (runResult v s) v :=
  givesOutput_writeOutput hwf hv

/-! ## Errors with their output cleared (60_exceptions.md R410) -/

section
variable (e : CmdError) (len : Half) (s : State)

theorem noOutput_raise_padding : (s.raise .padding e len).noOutput := by
  simp +contextual [State.noOutput, Memory.read_zeroFill]

theorem noOutput_raise_run : (s.raise .run e len).noOutput := by
  simp +contextual [State.noOutput, Memory.read_zeroFill]

/-- No error changes a byte outside OBUF. -/
theorem memSameOutside_raise (pl : ErrorPlace) :
    s.memSameOutside obufBase s.params.bufBytes (s.raise pl e len) :=
  fun _ ha => State.read_errorEffect pl s ha

end

theorem exec_pad_tooLong (c : BlockCipher) {s : State} (h : s.params.bufBytes ≤ s.msglen.toNat) :
    exec (.pad c) s = .next (s.raise .padding .lengthError s.msglen) := by
  simp [exec, execPad, State.tooLong, h]

theorem exec_unpad_tooLong (c : BlockCipher) {s : State} (h : s.params.bufBytes ≤ s.msglen.toNat) :
    exec (.unpad c) s = .next (s.raise .padding .lengthError s.msglen) := by
  simp [exec, execUnpad, State.tooLong, h]

theorem exec_run_tooLong (c : BlockCipher) (d : Dir) (m : Chain) (iv : Bool) {s : State}
    (h : s.params.bufBytes ≤ s.msglen.toNat) :
    exec (.run c d m iv) s = .next (s.raise .run .lengthError s.msglen) := by
  simp [exec, execRun, State.tooLong, h]

theorem exec_runArc4_tooLong (d : Dir) {s : State} (h : s.params.bufBytes ≤ s.msglen.toNat) :
    exec (.runArc4 d) s = .next (s.raise .run .lengthError s.msglen) := by
  simp [exec, execRunArc4, State.tooLong, h]

/-- Settles O39: the test of the length is the first of each of the four commands. -/
theorem tooLongAMessageIsALengthError : Obligations.TooLongAMessageIsALengthError := by
  intro s w hpending hlong
  refine ⟨fun i hi => ?padding, fun i hi => ?run⟩
  case padding =>
    have hexec : exec i s = .next (s.raise .padding .lengthError s.msglen) := by
      rcases hi with ⟨c, rfl | rfl⟩
      · exact exec_pad_tooLong c hlong
      · exact exec_unpad_tooLong c hlong
    exact ⟨_, hexec, endedWith_raise hpending .., noOutput_raise_padding .., memSameOutside_raise _ _ s _,
      sameOutsideCommand_raise .., rfl, rfl, rfl⟩
  case run =>
    have hexec : exec i s = .next (s.raise .run .lengthError s.msglen) := by
      rcases hi with ⟨c, d, m, iv, rfl⟩ | ⟨d, rfl⟩
      · exact exec_run_tooLong c d m iv hlong
      · exact exec_runArc4_tooLong d hlong
    exact ⟨_, hexec, endedWith_raise hpending .., noOutput_raise_run .., memSameOutside_raise _ _ s _,
      sameOutsideCommand_raise .., rfl, rfl, rfl⟩

/-! ## PAD (40_block_utils.md R130) -/

/-- The message and then p bytes p. -/
theorem pad_map_range (bs n : Nat) (f : Nat → Byte) :
    pad bs ((List.range n).map f) = (List.range (n + (bs - n % bs))).map fun j =>
      if j < n then f j else BitVec.ofNat 8 (bs - n % bs) := by
  rw [pad, List.length_map, List.length_range, List.range_add, List.map_append, List.map_map]
  refine congr (congrArg _ (List.map_congr_left fun j hj => ?_)) ?_
  · rw [if_pos (List.mem_range.mp hj)]
  · simp [rep, Function.comp_def]

/-- Settles O40. -/
theorem unpadInvertsPad : Obligations.UnpadInvertsPad := fun c d =>
  unpad_pad (blockSize_pos c) ((blockSize_le c).trans_lt (by decide)) d

/-- Settles O36: the padded message fits OBUF, and its bytes are the message's and the padding's. -/
theorem padAppendsThePaddingBytes : Obligations.PadAppendsThePaddingBytes := by
  intro c s hparams hwf hfits n p
  obtain ⟨hmultiple, -, hmax⟩ := (wellFormed_iff _).mp hparams
  have hp : p ≤ 16 := (Nat.sub_le _ _).trans (blockSize_le c)
  have hexec : exec (.pad c) s = .next (s.writeOutput (pad (blockSize c) s.message)).succeed := by
    simp [exec, execPad, State.tooLong, hfits]
  have hpad := pad_map_range (blockSize c) n fun k => s.mem.read (ibufBase + k)
  rw [← readBytes_eq_map_range] at hpad
  have hlen : (pad (blockSize c) s.message).length = n + p := by
    rw [length_pad, State.message, Memory.length_readBytes]
  obtain ⟨hended, houtlen, hbytes, hframe, houtside, hkeylen, hksbyte⟩ :=
    givesOutput_writeOutput hwf (v := pad (blockSize c) s.message) (by omega)
  rw [hlen] at houtlen hbytes hframe
  rw [State.message, hpad] at hbytes
  refine ⟨_, hexec, hended, houtlen, fun k hk => ?message, fun k hlo hhi => ?padding, hframe, houtside,
    hkeylen, hksbyte, rfl⟩
  case message =>
    rw [State.message, hpad, hbytes k (by omega), byteAt_map_range _ (show k < n + p by omega), if_pos hk]
  case padding =>
    rw [State.message, hpad, hbytes k hhi, byteAt_map_range _ hhi, if_neg (by omega),
      BitVec.toNat_ofNat, Nat.mod_eq_of_lt (by omega)]

/-! ## UNPAD (40_block_utils.md R131) -/

theorem drop_map_range (f : Nat → Byte) {n p : Nat} (hp : p ≤ n) :
    ((List.range n).map f).drop (n - p) = (List.range p).map fun j => f (n - p + j) := by
  obtain ⟨m, rfl⟩ := Nat.exists_eq_add_of_le' hp
  simp [List.range_add, Function.comp_def]

theorem take_map_range (f : Nat → Byte) {m n : Nat} (hm : m ≤ n) :
    ((List.range n).map f).take m = (List.range m).map f := by
  rw [← List.map_take, List.take_range, Nat.min_eq_left hm]

section
variable {bs n : Nat} {f : Nat → Byte}

/-- The last byte is the only candidate for the padding's length. -/
theorem last_of_endsInPadding {p : Nat} (h : endsInPadding bs f n p) : (f (n - 1)).toNat = p := by
  obtain ⟨-, hpos, -, hle, hbytes⟩ := h
  exact hbytes (n - 1) (by omega) (by omega)

/-- Validly padded bytes lose their padding. -/
theorem unpad_of_endsInPadding {p : Nat} (h : endsInPadding bs f n p) :
    unpad bs ((List.range n).map f) = some ((List.range (n - p)).map f) := by
  have hlast := last_of_endsInPadding h
  obtain ⟨hmod, hpos, hbs, hle, hbytes⟩ := h
  have hval : f (n - 1) ≠ 0 := fun h0 => by
    rw [h0] at hlast
    exact absurd hlast.symm (Nat.ne_of_gt hpos)
  have hall : ¬((List.range p).map fun j => f (n - p + j)).any (fun b => b != f (n - 1)) = true := by
    simp only [List.any_map, List.any_eq_true, List.mem_range, Function.comp_apply, bne_iff_ne, ne_eq,
      not_exists, not_and, not_not]
    intro j hj
    exact BitVec.eq_of_toNat_eq ((hbytes _ (by omega) (by omega)).trans hlast.symm)
  simp only [unpad, List.length_map, List.length_range, byteAt_map_range f (show n - 1 < n by omega), hlast]
  rw [if_neg (by omega), if_neg (not_or.mpr ⟨hval, by omega⟩), drop_map_range f hle, if_neg hall,
    take_map_range f (Nat.sub_le n p)]

/-- Bytes that do not end in valid padding are rejected. -/
theorem unpad_of_not_endsInPadding (h : ∀ p, ¬endsInPadding bs f n p) :
    unpad bs ((List.range n).map f) = none := by
  simp only [unpad, List.length_map, List.length_range]
  split_ifs with hlen hlast hbytes
  · rfl
  · rfl
  · rfl
  · exfalso
    rw [not_or, not_not] at hlen
    obtain ⟨hpos, hmod⟩ := hlen
    rw [byteAt_map_range f (by omega)] at hlast hbytes
    rw [not_or] at hlast
    obtain ⟨hzero, hle⟩ := hlast
    have hone : (f (n - 1)).toNat ≠ 0 := fun h0 => hzero (BitVec.eq_of_toNat_eq h0)
    have hbs : bs ≤ n := Nat.le_of_dvd (by omega) (Nat.dvd_of_mod_eq_zero hmod)
    have hfits : (f (n - 1)).toNat ≤ n := by omega
    refine h _ ⟨hmod, by omega, by omega, hfits, fun k hlo hhi => ?_⟩
    rw [drop_map_range f hfits] at hbytes
    simp only [List.any_map, List.any_eq_true, List.mem_range, Function.comp_apply, bne_iff_ne, ne_eq,
      not_exists, not_and, not_not] at hbytes
    have hk := hbytes (k - (n - (f (n - 1)).toNat)) (by omega)
    rw [Nat.add_sub_cancel' hlo] at hk
    rw [hk]

end

/-- Settles O37: the padding's length is the last byte, and what is left fits OBUF. -/
theorem unpadStripsThePadding : Obligations.UnpadStripsThePadding := by
  intro c s p hparams hwf hfits hpadded
  have hout := unpad_of_endsInPadding hpadded
  rw [← readBytes_eq_map_range] at hout
  have hexec : exec (.unpad c) s = .next (s.writeOutput ((List.range (s.msglen.toNat - p)).map
      fun k => s.mem.read (ibufBase + k))).succeed := by
    simp [exec, execUnpad, State.tooLong, hfits, State.message, hout]
  generalize hv : ((List.range (s.msglen.toNat - p)).map fun k => s.mem.read (ibufBase + k)) = v at hexec
  have hlen : v.length = s.msglen.toNat - p := by simp [← hv]
  obtain ⟨hended, houtlen, hbytes, hframe, houtside, hkeylen, hksbyte⟩ :=
    givesOutput_writeOutput hwf (v := v) (by omega)
  rw [hlen] at houtlen hbytes hframe
  refine ⟨_, hexec, hended, houtlen, fun k hk => ?message, hframe, houtside, hkeylen, hksbyte, rfl⟩
  case message => rw [hbytes k hk, ← hv, byteAt_map_range _ hk]

/-- Settles O38. -/
theorem unpadRejectsMalformedPadding : Obligations.UnpadRejectsMalformedPadding := by
  intro c s w hpending hfits hmalformed
  have hout := unpad_of_not_endsInPadding hmalformed
  rw [← readBytes_eq_map_range] at hout
  have hexec : exec (.unpad c) s = .next (s.raise .padding .paddingError s.msglen) := by
    simp [exec, execUnpad, State.tooLong, hfits, State.message, hout]
  exact ⟨_, hexec, endedWith_raise hpending .., noOutput_raise_padding .., memSameOutside_raise _ _ s _,
    sameOutsideCommand_raise .., rfl, rfl, rfl⟩

/-! ## All commands -/

/-- Settles O47: IV and IBUF stand before OBUF and clear of DATA and KEY. -/
theorem noCommandWritesIvOrIbuf : Obligations.NoCommandWritesIvOrIbuf := by
  intro i s t hparams h
  obtain ⟨-, -, hmax⟩ := (wellFormed_iff _).mp hparams
  have iv_clear {k : Nat} (hk : k < 16) : ivBase + k < obufBase ∧
      ¬(dataBase ≤ ivBase + k ∧ ivBase + k < dataBase + 16) ∧
      ¬(keyBase ≤ ivBase + k ∧ ivBase + k < keyBase + 256) := by
    unfold ivBase obufBase dataBase keyBase
    omega
  have ibuf_clear {k : Nat} (hk : k < s.params.bufBytes) : ibufBase + k < obufBase ∧
      ¬(dataBase ≤ ibufBase + k ∧ ibufBase + k < dataBase + 16) ∧
      ¬(keyBase ≤ ibufBase + k ∧ ibufBase + k < keyBase + 256) := by
    unfold ibufBase obufBase dataBase keyBase
    omega
  rcases exec_operands_cases h with ⟨-, hmem⟩ | ⟨-, -, hmem⟩ | ⟨-, hmem⟩
  · exact ⟨fun k hk => hmem _ (iv_clear hk).2.2, fun k hk => hmem _ (ibuf_clear hk).2.2⟩
  · exact ⟨fun k hk => hmem _ (iv_clear hk).2.1, fun k hk => hmem _ (ibuf_clear hk).2.1⟩
  · exact ⟨fun k hk => hmem _ (iv_clear hk).1, fun k hk => hmem _ (ibuf_clear hk).1⟩

/-- Settles O50: a command that does not succeed raises its error, whose effect is its place's. -/
theorem errorsLeaveNoPartialOutput : Obligations.ErrorsLeaveNoPartialOutput := by
  intro i s t h herr
  rcases exec_endsIn h with ⟨pl, e, len, rfl⟩ | ⟨u, -, rfl⟩
  · refine ⟨memSameOutside_raise e len s pl, State.raise_keylen .., State.raise_ksbyte ..,
      sameOutsideCommand_raise .., ?output, ?store⟩
    case output =>
      cases pl with
      | decoding | keyed | expand => exact .inl ⟨rfl, fun _ => rfl⟩
      | padding => exact .inr (noOutput_raise_padding e len s)
      | run => exact .inr (noOutput_raise_run e len s)
    case store =>
      cases pl with
      | decoding | keyed | padding => exact .inl rfl
      | expand | run => exact .inr rfl
  · exact absurd rfl herr

end Sys2Proof.Machine
end

section
/-! SUPPORT. RUN of a block cipher: the chaining by block number, strings as blocks of the bytes at their
indices, and the statements about RUN's output and errors (48_pipeline.md R330 to R335). -/

namespace Sys2Proof.Machine

/-! ## The chaining by block number (48_pipeline.md R333) -/

/-- The chaining value of block t + 1 of `a :: l` is that of block t of `l`, which `a` comes before. -/
theorem getD_cons_previous (a prev : Bytes) (l : List Bytes) (t : Nat) :
    (if t + 1 = 0 then prev else (a :: l).getD (t + 1 - 1) []) =
      if t = 0 then a else l.getD (t - 1) [] := by
  cases t <;> rfl

theorem getD_cbcEncrypt (e : Bytes → Bytes) {prev : Bytes} {l : List Bytes} {t : Nat}
    (ht : t < l.length) :
    (cbcEncrypt e prev l).getD t [] =
      e (xorBytes (l.getD t []) (if t = 0 then prev else (cbcEncrypt e prev l).getD (t - 1) [])) := by
  induction l generalizing prev t with
  | nil => exact absurd ht (Nat.not_lt_zero t)
  | cons b l ih =>
    cases t with
    | zero => rfl
    | succ t =>
      rw [cbcEncrypt, getD_cons_previous]
      exact ih (Nat.lt_of_succ_lt_succ ht)

theorem getD_cbcDecrypt (d : Bytes → Bytes) {prev : Bytes} {l : List Bytes} {t : Nat}
    (ht : t < l.length) :
    (cbcDecrypt d prev l).getD t [] =
      xorBytes (d (l.getD t [])) (if t = 0 then prev else l.getD (t - 1) []) := by
  induction l generalizing prev t with
  | nil => exact absurd ht (Nat.not_lt_zero t)
  | cons b l ih =>
    cases t with
    | zero => rfl
    | succ t =>
      rw [cbcDecrypt, getD_cons_previous]
      exact ih (Nat.lt_of_succ_lt_succ ht)

theorem getD_map_of_lt (f : Bytes → Bytes) {l : List Bytes} {t : Nat} (ht : t < l.length) :
    (l.map f).getD t [] = f (l.getD t []) := by
  simp [ht]

/-- Settles O41. -/
theorem chainingEquations : Obligations.ChainingEquations := by
  refine ⟨fun k b => ?functions, fun m k iv l => ⟨length_chainEncrypt .., length_chainDecrypt .., ?blocks⟩⟩
  case functions => cases k <;> exact ⟨rfl, rfl⟩
  case blocks =>
    intro t ht
    cases m with
    | ecb => exact ⟨getD_map_of_lt _ ht, getD_map_of_lt _ ht⟩
    | cbc => exact ⟨getD_cbcEncrypt _ ht, getD_cbcDecrypt _ ht⟩

/-! ## Blocks of the bytes at their indices (40_block_utils.md R132) -/

/-- Block t of the bytes `f 0`, `f 1`, .. -/
def blockAt (bs : Nat) (f : Nat → Byte) (t : Nat) : Bytes :=
  (List.range bs).map fun j => f (t * bs + j)

theorem getD_map_range {n t : Nat} (g : Nat → Bytes) (ht : t < n) :
    ((List.range n).map g).getD t [] = g t := by
  simp [ht]

theorem slice_map_range (f : Nat → Byte) {a len n : Nat} (h : a + len ≤ n) :
    slice ((List.range n).map f) a len = (List.range len).map fun j => f (a + j) := by
  refine List.ext_getElem (by simp [slice]; omega) fun i _ _ => ?_
  simp [slice]

theorem split_map_range (bs n : Nat) (f : Nat → Byte) :
    split bs ((List.range n).map f) = (List.range (n / bs)).map (blockAt bs f) := by
  rw [split, List.length_map, List.length_range]
  refine List.map_congr_left fun t ht => slice_map_range f ?_
  calc t * bs + bs = (t + 1) * bs := (Nat.succ_mul t bs).symm
    _ ≤ n / bs * bs := Nat.mul_le_mul_right bs (List.mem_range.mp ht)
    _ ≤ n := Nat.div_mul_le_self n bs

theorem join_map_blockAt (bs k : Nat) (f : Nat → Byte) :
    join ((List.range k).map (blockAt bs f)) = (List.range (k * bs)).map f := by
  induction k with
  | zero => simp [join]
  | succ k ih =>
    rw [join] at ih ⊢
    rw [List.range_succ, List.map_append, List.flatten_append, ih, Nat.succ_mul, List.range_add,
      List.map_append, List.map_map]
    simp [blockAt, Function.comp_def]

theorem xorBytes_map_range (n : Nat) (f g : Nat → Byte) :
    xorBytes ((List.range n).map f) ((List.range n).map g) =
      (List.range n).map fun j => f j ^^^ g j := by
  simp [xorBytes, List.zipWith_map, List.zipWith_self]

/-- Under CBC the chaining value is the block before, and the IV before block 0. -/
theorem map_chained_cbc (bs : Nat) (iv y : Nat → Byte) {t q : Nat} (ht : t < q) :
    (List.range bs).map (chained .cbc bs iv y t) =
      if t = 0 then (List.range bs).map iv
      else ((List.range q).map (blockAt bs y)).getD (t - 1) [] := by
  cases t with
  | zero => rfl
  | succ t =>
    rw [if_neg (Nat.succ_ne_zero t), getD_map_range _ (by omega)]
    rfl

section
variable {m : Chain} {k : BlockSchedule} {bs q : Nat} {iv : Nat → Byte}

/-- Block t of the ciphertext, from block t of the text and the chaining value. -/
theorem blockAt_of_chainEncrypt {x y : Nat → Byte} {t : Nat}
    (h : chainEncrypt m k ((List.range bs).map iv) ((List.range q).map (blockAt bs x)) =
      (List.range q).map (blockAt bs y)) (ht : t < q) :
    blockAt bs y t =
      encryptBlock k ((List.range bs).map fun j => x (t * bs + j) ^^^ chained m bs iv y t j) := by
  have hlen : t < ((List.range q).map (blockAt bs x)).length := by simpa using ht
  rw [← getD_map_range (blockAt bs y) ht]
  cases m with
  | ecb =>
    have hblock := getD_map_of_lt (encryptBlock k) hlen
    rw [getD_map_range _ ht] at hblock
    rw [← h]
    refine hblock.trans (congrArg _ (List.map_congr_left fun j _ => ?_))
    exact (BitVec.xor_zero).symm
  | cbc =>
    have hblock := getD_cbcEncrypt (encryptBlock k) (prev := (List.range bs).map iv) hlen
    have hcbc : cbcEncrypt (encryptBlock k) ((List.range bs).map iv)
      ((List.range q).map (blockAt bs x)) = (List.range q).map (blockAt bs y) := h
    rw [hcbc, ← map_chained_cbc bs iv y ht, getD_map_range (blockAt bs x) ht] at hblock
    rw [hblock, blockAt, xorBytes_map_range]

/-- The deciphered blocks, from the block function's and the chaining values. -/
theorem chainDecrypt_map_blockAt {y z : Nat → Byte}
    (h : ∀ t, t < q → (List.range bs).map (fun j => z (t * bs + j) ^^^ chained m bs iv y t j) =
      decryptBlock k (blockAt bs y t)) :
    chainDecrypt m k ((List.range bs).map iv) ((List.range q).map (blockAt bs y)) =
      (List.range q).map (blockAt bs z) := by
  refine List.ext_getElem (by simp) fun t _ hz => ?_
  have ht : t < q := by simpa using hz
  have hlen : t < ((List.range q).map (blockAt bs y)).length := by simpa using ht
  rw [List.getElem_eq_getD [], List.getElem_eq_getD [], getD_map_range _ ht]
  cases m with
  | ecb =>
    refine (getD_map_of_lt (decryptBlock k) hlen).trans ?_
    rw [getD_map_range _ ht, ← h t ht]
    exact List.map_congr_left fun j _ => BitVec.xor_zero
  | cbc =>
    refine (getD_cbcDecrypt (decryptBlock k) hlen).trans ?_
    rw [← map_chained_cbc bs iv y ht, getD_map_range _ ht, ← h t ht, xorBytes_map_range]
    refine List.map_congr_left fun j _ => ?_
    rw [BitVec.xor_assoc, BitVec.xor_self, BitVec.xor_zero]

end

/-! ## The message (48_pipeline.md R331, R332) -/

/-- The block functions of a cipher's expanded key. -/
theorem blockFunctions_expandKey (c : BlockCipher) (key : Bytes) :
    blockFunctions (expandKey c.cipher key) =
      (encryptBlock (expandBlock c key), decryptBlock (expandBlock c key)) := by
  cases c <;> rfl

section
variable {c : BlockCipher} {m : Chain} {key : Bytes} {n : Nat} {iv y : Nat → Byte}

theorem encryptsTo_of_runEncrypt {x : Nat → Byte}
    (h : runEncrypt c m (expandBlock c key) ((List.range (blockSize c)).map iv) ((List.range n).map x) =
      (List.range (n + (blockSize c - n % blockSize c))).map y) :
    encryptsTo (blockFunctions (expandKey c.cipher key)).1 m (blockSize c) iv x n y := by
  intro t ht
  rw [blockFunctions_expandKey]
  have hsplit := congrArg (split (blockSize c)) h
  rw [runEncrypt, split_join (blockSize_pos c) (length_eq_of_mem_chainEncrypt c m key _ _),
    pad_map_range, split_map_range, split_map_range] at hsplit
  exact blockAt_of_chainEncrypt hsplit ht

/-- A message of whole blocks is deciphered to `z`, which then loses its padding. -/
theorem runDecrypt_of_decryptsTo {z : Nat → Byte} (hpos : n ≠ 0) (hmod : n % blockSize c = 0)
    (h : decryptsTo (blockFunctions (expandKey c.cipher key)).2 m (blockSize c) iv y n z) :
    runDecrypt c m (expandBlock c key) ((List.range (blockSize c)).map iv) ((List.range n).map y) =
      unpad (blockSize c) ((List.range n).map z) := by
  rw [blockFunctions_expandKey] at h
  rw [runDecrypt, List.length_map, List.length_range, if_neg (by omega), split_map_range,
    chainDecrypt_map_blockAt h, join_map_blockAt, Nat.div_mul_cancel (Nat.dvd_of_mod_eq_zero hmod)]

/-- A message that is empty or is not of whole blocks is rejected. -/
theorem runDecrypt_of_not_blocks {k : BlockSchedule} {v x : Bytes}
    (h : x.length = 0 ∨ x.length % blockSize c ≠ 0) : runDecrypt c m k v x = none := by
  rw [runDecrypt, if_pos h]

end

/-! ## RUN that succeeds (48_pipeline.md R330, R334) -/

theorem runSucceeds_runResult {s : State} {out : Bytes} (hwf : s.mem.wf = true)
    (hparams : s.params.wellFormed = true) (hout : out.length ≤ s.params.bufBytes) :
    runSucceeds s (runResult out s) out.length := by
  obtain ⟨-, -, hmax⟩ := (wellFormed_iff _).mp hparams
  obtain ⟨hended, houtlen, -, hframe, houtside, hkeylen, hksbyte⟩ :=
    givesOutput_runResult hwf (s := s) (v := out) (by omega)
  exact ⟨hended, houtlen, hout, hframe, rfl, houtside, hkeylen, hksbyte⟩

/-- The output of a RUN can be read from OBUF. -/
theorem readBytes_runResult {s : State} (hwf : s.mem.wf = true) (out : Bytes) :
    (runResult out s).mem.readBytes obufBase out.length = out :=
  Memory.readBytes_writeBytes hwf obufBase out

section
variable {c : BlockCipher} {m : Chain} {iv : Bool} {s : State}

/-- A RUN whose message has an output succeeds with it. -/
theorem exec_run_succeeds {d : Dir} {out : Bytes} (hparams : s.params.wellFormed = true)
    (hwf : s.mem.wf = true) (hfits : s.msglen.toNat < s.params.bufBytes) (hiv : m = .cbc → iv = true)
    (hkey : keyLengthOk c.cipher s.keylen.toNat = true)
    (hout : runMessage c d m (expandBlock c s.key) (s.iv (blockSize c)) s.message = some out) :
    exec (.run c d m iv) s = .next (runResult out s) ∧ runSucceeds s (runResult out s) out.length := by
  obtain ⟨hmultiple, -, -⟩ := (wellFormed_iff _).mp hparams
  have hmessage : s.message.length < s.params.bufBytes := by
    rwa [State.message, Memory.length_readBytes]
  exact ⟨exec_run_accepted hfits hiv hkey hout,
    runSucceeds_runResult hwf hparams (length_runMessage_le hmultiple hmessage hout)⟩

end

/-- Settles O42: the output is the message's, and its bytes are those that `encryptsTo` and `decryptsTo`
speak of. -/
theorem runTransformsTheMessage : Obligations.RunTransformsTheMessage := by
  intro c m iv s hparams hwf hfits hiv hkey key k bs n ivOf input
  have hinput : s.message = (List.range n).map input := readBytes_eq_map_range ..
  have hivBytes : s.iv bs = (List.range bs).map ivOf := readBytes_eq_map_range ..
  refine ⟨?encrypt, fun z p hz hpadded => ?decrypt, fun d out hout => ?any⟩
  case encrypt =>
    obtain ⟨hexec, hsucceeds⟩ := exec_run_succeeds (d := .enc) hparams hwf hfits hiv hkey rfl
    have hlen := length_runEncrypt c m s.key (s.iv bs) s.message
    rw [length_pad, State.message, Memory.length_readBytes] at hlen
    have hread := readBytes_runResult hwf (runEncrypt c m (expandBlock c s.key) (s.iv bs) s.message)
    refine ⟨_, hexec, hlen ▸ hsucceeds, encryptsTo_of_runEncrypt ?_⟩
    rw [← hinput, ← hivBytes, ← readBytes_eq_map_range, ← hlen]
    exact hread.symm
  case decrypt =>
    have ⟨hmod, hpos, _, hle, _⟩ := hpadded
    have hout := runDecrypt_of_decryptsTo (by omega) hmod hz
    rw [unpad_of_endsInPadding hpadded, ← hinput, ← hivBytes] at hout
    obtain ⟨hexec, hsucceeds⟩ := exec_run_succeeds (d := .dec) hparams hwf hfits hiv hkey hout
    have hread := readBytes_runResult hwf ((List.range (n - p)).map z)
    rw [List.length_map, List.length_range] at hsucceeds hread
    rw [readBytes_eq_map_range] at hread
    exact ⟨_, hexec, hsucceeds, fun j hj => List.map_inj_left.mp hread j (List.mem_range.mpr hj)⟩
  case any =>
    obtain ⟨hexec, hsucceeds⟩ := exec_run_succeeds hparams hwf hfits hiv hkey hout
    exact ⟨_, hexec, hsucceeds, readBytes_runResult hwf out⟩

/-! ## RUN that fails (48_pipeline.md R330, R332, R335) -/

section
variable {c : BlockCipher} {d : Dir} {m : Chain} {iv : Bool} {s : State}

theorem exec_run_missingIV (hfits : s.msglen.toNat < s.params.bufBytes) (h : m = .cbc ∧ iv = false) :
    exec (.run c d m iv) s = .next (s.raise .run .missingIV 0) := by
  simp [exec, execRun, State.tooLong, hfits, h]

theorem exec_run_invalidKeyLength (hfits : s.msglen.toNat < s.params.bufBytes)
    (hiv : ¬(m = .cbc ∧ iv = false)) (hkey : keyLengthOk c.cipher s.keylen.toNat = false) :
    exec (.run c d m iv) s = .next (s.raise .run .invalidKeyLength s.keylenInfo) := by
  simp [exec, execRun, State.tooLong, hfits, hiv, hkey]

theorem exec_run_paddingError (hfits : s.msglen.toNat < s.params.bufBytes)
    (hiv : ¬(m = .cbc ∧ iv = false)) (hkey : keyLengthOk c.cipher s.keylen.toNat ≠ false)
    (h : runDecrypt c m (expandBlock c s.key) (s.iv (blockSize c)) s.message = none) :
    exec (.run c .dec m iv) s = .next (s.raise .run .paddingError s.msglen) := by
  simp [exec, execRun, State.tooLong, hfits, hiv, hkey, runMessage, h]

/-- Decryption rejects what does not end in valid padding. -/
theorem runDecrypt_of_malformed {key : Bytes} {n : Nat} {ivOf y z : Nat → Byte} (hpos : n ≠ 0)
    (hmod : n % blockSize c = 0)
    (hz : decryptsTo (blockFunctions (expandKey c.cipher key)).2 m (blockSize c) ivOf y n z)
    (h : ∀ p, ¬endsInPadding (blockSize c) z n p) :
    runDecrypt c m (expandBlock c key) ((List.range (blockSize c)).map ivOf) ((List.range n).map y) =
      none :=
  (runDecrypt_of_decryptsTo hpos hmod hz).trans (unpad_of_not_endsInPadding h)

end

/-- Settles O43: each error is raised by RUN itself, and the frame is that of every error of RUN. -/
theorem runErrorsInTheirOrder : Obligations.RunErrorsInTheirOrder := by
  intro c d m iv s w hpending hfits key bs n e len herror
  have hexec : exec (.run c d m iv) s = .next (s.raise .run e len) := by
    split_ifs at herror with hiv hkey
    · obtain ⟨rfl, rfl⟩ := herror
      exact exec_run_missingIV hfits hiv
    · obtain ⟨rfl, hlen⟩ := herror
      have hinfo : len = s.keylenInfo := by
        rw [keylenInfo_eq, ← hlen, BitVec.ofNat_toNat, BitVec.setWidth_eq]
      rw [hinfo]
      exact exec_run_invalidKeyLength hfits hiv hkey
    · obtain ⟨rfl, rfl, rfl, hmalformed⟩ := herror
      refine exec_run_paddingError hfits hiv hkey ?_
      have hlength : s.message.length = n := Memory.length_readBytes ..
      by_cases hblocks : n = 0 ∨ n % bs ≠ 0
      · exact runDecrypt_of_not_blocks (hlength.symm ▸ hblocks)
      · obtain ⟨hpos, hmod⟩ := not_or.mp hblocks
        rcases hmalformed with h0 | hne | ⟨z, hz, hpadding⟩ | hnone
        · exact absurd h0 hpos
        · exact absurd hne hmod
        · rw [State.message, State.iv, readBytes_eq_map_range, readBytes_eq_map_range]
          exact runDecrypt_of_malformed hpos (not_not.mp hmod) hz hpadding
        · exact hnone
  exact ⟨_, hexec, endedWith_raise hpending .., noOutput_raise_run .., rfl,
    memSameOutside_raise _ _ s _, sameOutsideCommand_raise .., rfl, rfl⟩

end Sys2Proof.Machine
end
